-- ==== Sys2Proof/Word.lean ====
section
/-! DEFINITION. The words of the part and the saturating count (00, Conventions: "A counter that saturates stops at its stated maximum"). -/

namespace Sys2Proof

/-- A byte of a message, a record or the ownership image. -/
abbrev Byte := BitVec 8

/-- A 16-bit field: an overhead word, a node identity, a reference, a set id. -/
abbrev Word := BitVec 16

/-- A map epoch, change epoch, command epoch or reported epoch (03 section 3.5). -/
abbrev Epoch := BitVec 32

/-- One more, staying at the greatest value of the width (00, Conventions). -/
def satSucc {w : Nat} (x : BitVec w) : BitVec w :=
  if x = BitVec.allOnes w then x else x + 1

end Sys2Proof
end

