-- ==== Sys2Proof/Syntax.lean ====
section
/-! DEFINITION. The commands of the part: one constructor of Instr for each row of spec/opcode_table.json, with the operands the numbered rules give it. -/

namespace Sys2Proof

/-- The two server ports (00, Conventions). -/
inductive Port where
  | a
  | b
  deriving DecidableEq, Repr

/-- "For either port, the peer is the other port" (00, Conventions). -/
def Port.peer : Port → Port
  | .a => .b
  | .b => .a

/-- A link frame as received (R1): the marker (a position when below 8, else it names none), whether the check code
agrees with the contents, where the first message that begins in the frame starts, how many messages begin in it (log 7),
the payload bytes and the overhead word. -/
structure Frame where
  marker : Nat
  good : Bool
  firstStart : Option Nat
  begun : Nat
  payload : List Byte
  word : Word
  deriving DecidableEq, Repr

/-- A message header without its kind (R23): flags, length, reference. -/
structure Header where
  flags : Byte
  length : Word
  ref : Word
  deriving DecidableEq, Repr

/-- A configuration record as it is written: every field in the width and the order of R182. -/
structure RawConfig where
  kReq : Byte
  window : Byte
  guarA : Byte
  guarB : Byte
  depth : Byte
  criterion : Byte
  threshold : Word
  action : Byte
  tLl : Word
  settleCount : Byte
  stallLimit : Word
  tCf : Word
  autoTakeover : Byte
  peerTakeover : Byte
  destination : Byte
  fenceMode : Byte
  tDrn : Word
  tPk : Byte
  tCmd : Byte
  tAbt : Word
  tRel : Word
  tSw : Word
  deriving DecidableEq, Repr

/-- The status of a completion from the drive (R98). -/
inductive DriveStatus where
  | good
  | error
  deriving DecidableEq, Repr

/-- The commands of the part, one for each row of the table. `p` is the port a frame, message or timer belongs to,
`h` a message header, `seq` the sequence number of a management record. -/
inductive Instr where
  /-- FULL_RESET (R175), with the levels of the straps MAD0 and MAD1. -/
  | fullReset (mad0 mad1 : Bool)
  /-- RESTART (R188). -/
  | restart (seq : Byte)
  /-- CANDIDATE_FRAME (R3). -/
  | candidateFrame (p : Port) (fr : Frame)
  /-- ALIGNED_FRAME (R5). -/
  | alignedFrame (p : Port) (fr : Frame)
  /-- FRAME_SEND (R2): one tick of the part's 12.5 µs frame clock, for both ports. -/
  | frameSend
  /-- T_LL_EXPIRY (R7). -/
  | tLlExpiry (p : Port)
  /-- CHECK_ERROR_WINDOW_END (R12). -/
  | checkErrorWindowEnd (p : Port)
  /-- PULSE_STALL_LIMIT (R131). -/
  | pulseStallLimit (p : Port)
  /-- LENGTH_OUT_OF_RANGE (R24). -/
  | lengthOutOfRange (p : Port) (h : Header)
  /-- UNDEFINED_KIND (R24). -/
  | undefinedKind (p : Port) (kind : Byte) (h : Header)
  /-- READ (R78). -/
  | read (p : Port) (h : Header) (ec : Epoch) (lba : BitVec 48) (n : Word)
  /-- WRITE (R78). -/
  | write (p : Port) (h : Header) (ec : Epoch) (lba : BitVec 48) (n : Word)
  /-- FLUSH (R78). -/
  | flush (p : Port) (h : Header) (ec : Epoch)
  /-- WRITE_DATA (R27). -/
  | writeData (p : Port) (h : Header) (offset : BitVec 32) (bytes : List Byte)
  /-- ENROL (R124), with the reported epoch. -/
  | enrol (p : Port) (h : Header) (epoch : Epoch)
  /-- PARK (R141). -/
  | park (p : Port) (h : Header)
  /-- CLAIM (R67). -/
  | claim (p : Port) (h : Header) (f n : Word)
  /-- YIELD (R70). -/
  | yieldClaim (p : Port) (h : Header) (id : Byte)
  /-- KEEP (R71). -/
  | keepClaim (p : Port) (h : Header) (id : Byte)
  /-- DISCLAIM (R76). -/
  | disclaim (p : Port) (h : Header) (f n : Word)
  /-- SET_POLICY (R77), with the policy code. -/
  | setPolicy (p : Port) (h : Header) (f n : Word) (policy : Byte)
  /-- TAKEOVER (R136), with the target's port code. -/
  | takeover (p : Port) (h : Header) (target : Byte)
  /-- MAP_QUERY (R34). -/
  | mapQuery (p : Port) (h : Header) (f n : Word)
  /-- INTENT_READ (R159). -/
  | intentRead (p : Port) (h : Header) (setId : Word)
  /-- INTENT_CLEAR (R160). -/
  | intentClear (p : Port) (h : Header) (setId : Word)
  /-- STATE_QUERY (R33). -/
  | stateQuery (p : Port) (h : Header)
  /-- READ_STATE (R183). -/
  | readState (seq : Byte)
  /-- READ_EVENTS (R189). -/
  | readEvents (seq : Byte)
  /-- READ_CONFIG (R183). -/
  | readConfig (seq : Byte)
  /-- WRITE_CONFIG (R185). -/
  | writeConfig (seq : Byte) (record : RawConfig)
  /-- FENCE_PORT (R186), with the port code. -/
  | fencePort (seq : Byte) (port : Byte)
  /-- CLEAR_MAP (R187). -/
  | clearMap (seq : Byte)
  /-- MALFORMED_RECORD (R181), with the bytes written. -/
  | malformedRecord (bytes : List Byte)
  /-- DV_PRSN_LOW (R100). -/
  | dvPrsnLow
  /-- DV_PRSN_HIGH (R114). -/
  | dvPrsnHigh
  /-- ATTACH_ANSWER_TIME_EXPIRY (R102). -/
  | attachAnswerTimeExpiry
  /-- ATTACH_RETRY_TIME_EXPIRY (R100). -/
  | attachRetryTimeExpiry
  /-- IDENTIFY_ANSWER (R101): capacity, block size, queue depth. -/
  | identifyAnswer (capacity block depth : Nat)
  /-- REATTACH_IDENTIFY_ANSWER (R115). -/
  | reattachIdentifyAnswer (capacity block depth : Nat)
  /-- REATTACH_TIME_EXPIRY (R115). -/
  | reattachTimeExpiry
  /-- DRIVE_COMPLETION (R108). -/
  | driveCompletion (tag : Nat) (status : DriveStatus) (detail : Word)
  /-- DRIVE_READ_DATA (R107). -/
  | driveReadData (tag : Nat) (offset : BitVec 32) (bytes : List Byte)
  /-- ABORT_ANSWER (R112): `done` is DONE, else NOT_FOUND. -/
  | abortAnswer (tag : Nat) (done : Bool)
  /-- COMMAND_TIMER_EXPIRY (R111) of the entry under the drive tag. -/
  | commandTimerExpiry (tag : Nat)
  /-- ABORT_TIMER_EXPIRY (R113) of the entry under the drive tag. -/
  | abortTimerExpiry (tag : Nat)
  /-- CONFIRM_TIMER_EXPIRY (R133). -/
  | confirmTimerExpiry (p : Port)
  /-- PARK_TIMER_EXPIRY (R142). -/
  | parkTimerExpiry (p : Port)
  /-- START_WINDOW_EXPIRY (R138). -/
  | startWindowExpiry
  /-- CLAIM_DEADLINE_EXPIRY (R72) of the open claim with the id. -/
  | claimDeadlineExpiry (id : Byte)
  /-- DRAIN_TIMER_EXPIRY (R148). -/
  | drainTimerExpiry (p : Port)
  /-- ARBITER_DECISION (R92). -/
  | arbiterDecision
  /-- SHARE_WINDOW_END (R94). -/
  | shareWindowEnd
  /-- QUEUE_DEPTH_TAKEN (R81). -/
  | queueDepthTaken (p : Port)
  /-- BRIDGE_COMMAND_ISSUE (R104). -/
  | bridgeCommandIssue
  /-- IMAGE_CYCLE_BEGIN (R171). -/
  | imageCycleBegin
  /-- QUIESCE_MET_COMMIT (R62) of one transfer record. -/
  | quiesceMetCommit (step : Nat)
  /-- WAITING_STEP_ADMITTED (R60). -/
  | waitingStepAdmitted
  /-- TICKET_SERVED (R170). -/
  | ticketServed
  /-- PORT_CLEAR (R119). -/
  | portClear (p : Port)
  /-- QUEUE_EMPTY_REPORT (R84). -/
  | queueEmptyReport (p : Port)
  deriving DecidableEq, Repr

end Sys2Proof
end

