-- ==== Sys2Proof/WellFormed.lean ====
section
/-! DEFINITION. Which commands the world can give: the ranges and lengths the manual states of what arrives at the part. A message of a wrong length is well-formed (R24 says what happens to it); exec is total on ill-formed commands too. -/

namespace Sys2Proof

/-- The inbound kind codes of R24. -/
def inboundKind (kind : Byte) : Bool :=
  (0x01#8 ≤ kind && kind ≤ 0x04#8) || (0x10#8 ≤ kind && kind ≤ 0x1B#8)

/-- The length range of a message (R23). -/
def lengthInRange (len : Word) : Bool := 6#16 ≤ len && len ≤ 4106#16

/-- A header whose length is in the range of R23. -/
def Header.wf (h : Header) : Bool := lengthInRange h.length

/-- A frame carries 1,024 payload bytes (R1), and messages begin in it exactly when it names a first start (log 7). -/
def Frame.wf (fr : Frame) : Bool :=
  fr.payload.length == 1024 &&
    (match fr.firstStart with
     | none => fr.begun == 0
     | some o => o < 1024 && fr.begun != 0)

/-- The management kinds and their lengths (R182). -/
def recordLength (kind : Byte) : Option Nat :=
  if kind = 0x01#8 then some 2
  else if kind = 0x02#8 then some 2
  else if kind = 0x03#8 then some 2
  else if kind = 0x04#8 then some 32
  else if kind = 0x05#8 then some 3
  else if kind = 0x06#8 then some 2
  else if kind = 0x07#8 then some 2
  else none

/-- A management write that is malformed (R181): too short, of undefined kind or of wrong length. -/
def recordMalformed : List Byte → Bool
  | kind :: seq :: rest => recordLength kind != some (kind :: seq :: rest).length
  | _ => true

/-- The check: a message's header length is in range and its data fit it, a frame has its shape, the event rows name the
event they stand for, drive tags are 0..31 and read data is 1 to 4096 bytes (R27, R103). -/
def Instr.wf : Instr → Bool
  | .fullReset _ _ => true
  | .restart _ => true
  | .candidateFrame _ fr => fr.wf
  | .alignedFrame _ fr => fr.wf
  | .frameSend => true
  | .tLlExpiry _ => true
  | .checkErrorWindowEnd _ => true
  | .pulseStallLimit _ => true
  | .lengthOutOfRange _ h => !lengthInRange h.length
  | .undefinedKind _ kind h => !inboundKind kind && h.wf
  | .read _ h _ _ _ => h.wf
  | .write _ h _ _ _ => h.wf
  | .flush _ h _ => h.wf
  | .writeData _ h _ bytes => h.wf && (h.length.toNat < 11 || bytes.length + 10 == h.length.toNat)
  | .enrol _ h _ => h.wf
  | .park _ h => h.wf
  | .claim _ h _ _ => h.wf
  | .yieldClaim _ h _ => h.wf
  | .keepClaim _ h _ => h.wf
  | .disclaim _ h _ _ => h.wf
  | .setPolicy _ h _ _ _ => h.wf
  | .takeover _ h _ => h.wf
  | .mapQuery _ h _ _ => h.wf
  | .intentRead _ h _ => h.wf
  | .intentClear _ h _ => h.wf
  | .stateQuery _ h => h.wf
  | .readState _ => true
  | .readEvents _ => true
  | .readConfig _ => true
  | .writeConfig _ _ => true
  | .fencePort _ _ => true
  | .clearMap _ => true
  | .malformedRecord bytes => recordMalformed bytes
  | .dvPrsnLow => true
  | .dvPrsnHigh => true
  | .attachAnswerTimeExpiry => true
  | .attachRetryTimeExpiry => true
  | .identifyAnswer _ _ _ => true
  | .reattachIdentifyAnswer _ _ _ => true
  | .reattachTimeExpiry => true
  | .driveCompletion tag _ _ => tag < 32
  | .driveReadData tag _ bytes => tag < 32 && 1 ≤ bytes.length && bytes.length ≤ 4096
  | .abortAnswer tag _ => tag < 32
  | .commandTimerExpiry tag => tag < 32
  | .abortTimerExpiry tag => tag < 32
  | .confirmTimerExpiry _ => true
  | .parkTimerExpiry _ => true
  | .startWindowExpiry => true
  | .claimDeadlineExpiry id => id != 0
  | .drainTimerExpiry _ => true
  | .arbiterDecision => true
  | .shareWindowEnd => true
  | .queueDepthTaken _ => true
  | .bridgeCommandIssue => true
  | .imageCycleBegin => true
  | .quiesceMetCommit _ => true
  | .waitingStepAdmitted => true
  | .ticketServed => true
  | .portClear _ => true
  | .queueEmptyReport _ => true

end Sys2Proof
end

