-- ==== Sys2Proof/Config.lean ====
section
/-! DEFINITION. What the manual fixes for the part: sizes, limits and fixed times. One value of the manual is left free: the fill of a frame (log 9). Every choice it leaves to the world is an operand or the order of the commands (log 1, log 7). -/

namespace Sys2Proof

/-- The greatest map epoch (R52). -/
def Config.maxEpoch : Epoch := BitVec.allOnes 32

/-- The outbound message queue holds at most 192 messages (R20). -/
def Config.outQueueMax : Nat := 192

/-- Payload bytes of a frame (R1). -/
def Config.payloadBytes : Nat := 1024

/-- A byte of fill: a payload byte of a frame sent that carries no message (R1, R2). A free value: nothing is known of it
(log 9). -/
opaque Config.fillByte : Nat → Byte

/-- The reserved area, in blocks (R37). -/
def Config.reservedBlocks : Nat := 64

/-- The greatest number of extents (R40). -/
def Config.maxExtents : Nat := 1024

/-- The length of the ownership image in bytes (R166). -/
def Config.imageBytes : Nat := 8320

/-- The attach answer time in seconds (R100). -/
def Config.attachTime : Nat := 10

/-- The time to the next attach attempt in seconds (R100). -/
def Config.retryTime : Nat := 1

/-- The re-attach time in seconds (R115). -/
def Config.reattachTime : Nat := 5

/-- The check-error window count's greatest value (R10, log 27). -/
def Config.checkErrorMax : Nat := 80000

end Sys2Proof
end

