-- ==== Sys2Proof/Machine/State.lean ====
section
/-! DEFINITION. The state of the part, block by block (00, Block diagram), as plain data, and the state after a full reset. Every field is named in INVENTORY.md with its rule and its reset value. -/

namespace Sys2Proof.Machine

/-- A pair of like things, one for each server port. -/
structure PerPort (α : Type) where
  a : α
  b : α
  deriving DecidableEq, Repr

/-- The thing of one port. -/
def PerPort.get {α : Type} (x : PerPort α) : Port → α
  | .a => x.a
  | .b => x.b

/-- The pair with one port's thing replaced. -/
def PerPort.set {α : Type} (x : PerPort α) (p : Port) (v : α) : PerPort α :=
  match p with
  | .a => { x with a := v }
  | .b => { x with b := v }

/-- A timer: stopped, or running with the time it was started with, in the unit of its setting (log 4). -/
abbrev Timer := Option Nat

/-! ### The named values -/

/-- Port states (section 7.1). -/
inductive PortState where
  | offline | linked | enrolled | suspect | held | parking | parked | fenced
  deriving DecidableEq, Repr

/-- Suspicion causes (R122). -/
inductive Cause where
  | none | link | stall
  deriving DecidableEq, Repr

/-- Alignment states (section 1.2). -/
inductive Align where
  | down | aligned | losing
  deriving DecidableEq, Repr

/-- Health of a server (section 1.4). -/
inductive Health where
  | starting | running | leaving | faulted
  deriving DecidableEq, Repr

/-- Peer view of a server (section 1.4). -/
inductive PeerView where
  | seen | notSeen | unknown
  deriving DecidableEq, Repr

/-- Bridge states (section 9.4). -/
inductive Bridge where
  | starting | recovery | service | halted
  deriving DecidableEq, Repr

/-- Drive states (R99). -/
inductive Drive where
  | absent | attaching | ready | resetting | lost
  deriving DecidableEq, Repr

/-- Read policies (R45). -/
inductive Policy where
  | shared | owner
  deriving DecidableEq, Repr

/-- What began a transfer (R49, R58). -/
inductive StepKind where
  | claim | disclaim | takeover | park | release | clear
  deriving DecidableEq, Repr

/-- Stages of a transfer record (R58). -/
inductive StepStage where
  | waiting | quiesce | persist
  deriving DecidableEq, Repr

/-- States of a claim (section 4.2). -/
inductive ClaimState where
  | asking | waiting | transferring
  deriving DecidableEq, Repr

/-- Ops of a drive command (R79). -/
inductive Op where
  | read | write | flush
  deriving DecidableEq, Repr

/-- Completion statuses (02, Completion statuses). -/
inductive CompStatus where
  | good | driveError | notOwner | staleEpoch | range | invalid | retry | notEnrolled | fenced | aborted | driveReset
  | notReady | tagInUse
  deriving DecidableEq, Repr

/-- Answer results (02, Answer results). -/
inductive AnsResult where
  | done | granted | denied | timedOut | late | conflict | busy | retry | notFound | notEnrolled | notReady | notOwner
  | invalid | cancelled | refused | exhausted
  deriving DecidableEq, Repr

/-- Fence causes (R32). -/
inductive FenceCause where
  | liveness | self | restart | identity | parkTimeout | peerRequest | admin | absent
  deriving DecidableEq, Repr

/-- Stages of a takeover record (R143). -/
inductive TakeoverStage where
  | fence | drain | transfer | persist | closed
  deriving DecidableEq, Repr

/-- Stages of a park record (R162). -/
inductive ParkStage where
  | queue | drive | transfer | persist
  deriving DecidableEq, Repr

/-- States of the image cycle (R169). -/
inductive CycleState where
  | idle | writing | flushing
  deriving DecidableEq, Repr

/-- Outcomes of an intent entry (R156); `notYet` is OPEN. -/
inductive IntentOutcome where
  | notYet
  | completed
  | failed (detail : Word)
  | aborted
  | lostInReset
  deriving DecidableEq, Repr

/-- Kinds of event (section 10.4), in the order of its table. -/
inductive Event where
  | takeoverBegun | takeoverDone | portDown | linkDegraded | driveReset | driveLost | imageFault | clampedConfig
  | recoveryStart | intentDiscarded | epochExhausted
  deriving DecidableEq, Repr

/-! ### The configuration record (section 10.2) -/

/-- Alignment loss criteria (R6). -/
inductive Criterion where
  | twoOfFour | threeOfEight | fiveOfSixteen
  deriving DecidableEq, Repr

/-- Excessive check-error actions (R11). -/
inductive CheckAction where
  | report | research
  deriving DecidableEq, Repr

/-- Takeover destination settings (R150). -/
inductive DestSetting where
  | survivor | none
  deriving DecidableEq, Repr

/-- Fence modes (R147). -/
inductive FenceMode where
  | drain | abort
  deriving DecidableEq, Repr

/-- The settings of the configuration table (section 10.2), in its order and units. -/
structure Settings where
  kReq : Nat
  window : Nat
  guar : PerPort Nat
  depth : Nat
  criterion : Criterion
  threshold : Nat
  action : CheckAction
  tLl : Nat
  settleCount : Nat
  stallLimit : Nat
  tCf : Nat
  autoTakeover : Bool
  peerTakeover : Bool
  destination : DestSetting
  fenceMode : FenceMode
  tDrn : Nat
  tPk : Nat
  tCmd : Nat
  tAbt : Nat
  tRel : Nat
  tSw : Nat
  deriving DecidableEq, Repr

/-- The defaults of the configuration table. -/
def Settings.default : Settings :=
  { kReq := 16, window := 32, guar := ⟨16, 16⟩, depth := 16, criterion := .threeOfEight, threshold := 64, action := .report,
    tLl := 40, settleCount := 2, stallLimit := 5000, tCf := 1500, autoTakeover := true, peerTakeover := true,
    destination := .survivor, fenceMode := .drain, tDrn := 5000, tPk := 10, tCmd := 20, tAbt := 2000, tRel := 2000,
    tSw := 60 }

/-! ### Outbound messages (chapter 2) -/

/-- The flags of an outbound message (R30). -/
structure MsgFlags where
  notDurable : Bool
  clamped : Bool
  wasFenced : Bool
  extentsReleased : Bool
  deriving DecidableEq, Repr

/-- A transfer mark (R49); the destination NONE is `none`. -/
structure Mark where
  kind : StepKind
  dest : Option Port
  deriving DecidableEq, Repr

/-- One extent record of a MAP QUERY answer (R34). -/
structure MapRecord where
  owner : Option Port
  policy : Policy
  mark : Option Mark
  claim : Byte
  epoch : Epoch
  deriving DecidableEq, Repr

/-- The body of a MAP QUERY answer (R34). -/
structure MapView where
  epoch : Epoch
  shift : Nat
  extents : Nat
  visible : Nat
  first : Nat
  records : List MapRecord
  deriving DecidableEq, Repr

/-- An entry of the intent list (R156); the set id and the fenced port stand in its set. -/
structure IntentEntry where
  tag : Word
  lba : BitVec 48
  count : Word
  epoch : Epoch
  seq : BitVec 64
  outcome : IntentOutcome
  deriving DecidableEq, Repr

/-- An intent set (R156), its entries in issue order. -/
structure IntentSet where
  setId : Word
  port : Port
  entries : List IntentEntry
  deriving DecidableEq, Repr

/-- What STATE QUERY and READ STATE show of an intent set (R33, R183). -/
structure SetSummary where
  setId : Word
  port : Port
  entries : Nat
  openEntries : Nat
  deriving DecidableEq, Repr

/-- The body of a STATE QUERY answer (R33), in its order. -/
structure StateView where
  bridge : Bridge
  orphan : Bool
  own : PortState
  cause : Cause
  peer : PortState
  ownStage : TakeoverStage
  peerStage : TakeoverStage
  identity : Word
  drive : Drive
  depth : Nat
  block : Nat
  visible : Nat
  shift : Nat
  extents : Nat
  epoch : Epoch
  claim : Byte
  handover : Bool
  sets : List SetSummary
  imageFault : Bool
  deriving DecidableEq, Repr

/-- The fields of an ANSWER for each request kind (R30). -/
inductive AnswerBody where
  | enrol (epoch : Epoch) (setId : Word) (count : Nat)
  | park (epoch : Epoch)
  | claim (id : Byte) (epoch : Epoch)
  | yieldClaim (id : Byte)
  | keepClaim (id : Byte)
  | disclaim (epoch : Epoch)
  | setPolicy (epoch : Epoch)
  | takeover (target : Byte) (setId : Word)
  | mapQuery (view : MapView)
  | intentRead (setId : Word) (port : Option Port) (entries : List IntentEntry)
  | intentClear (setId : Word)
  | stateQuery (view : StateView)
  deriving DecidableEq, Repr

/-- Handover kinds (R32). -/
inductive HandoverKind where
  | takeover | park
  deriving DecidableEq, Repr

/-- The messages of the outbound queue: COMPLETION (R28), ANSWER (R30) and the notices (R32). -/
inductive OutMsg where
  | completion (tag : Word) (status : CompStatus) (detail : Word)
  | answer (ref : Word) (flags : MsgFlags) (result : AnsResult) (body : AnswerBody)
  | releaseAsk (id : Byte) (claimant : Port) (first count tRel : Nat)
  | fenceNotice (cause : FenceCause) (setId : Word) (epoch : Epoch)
  | handoverNotice (kind : HandoverKind) (port : Port) (epoch : Epoch) (moved : Nat) (setId : Word) (entries : Nat)
      (notDurable : Bool)
  deriving DecidableEq, Repr

/-- The messages of the data list (R27). A READ DATA also says which READ it belongs to, by the issue sequence number of
its entry (R105): the model's own, and no part of the message (log 40). -/
inductive DataMsg where
  | transferReady (tag : Word) (count : BitVec 32)
  | readData (seq : BitVec 64) (tag : Word) (offset : BitVec 32) (bytes : List Byte)
  deriving DecidableEq, Repr

/-- The turn flag between data messages and queued messages (R27). -/
inductive Turn where
  | data | queue
  deriving DecidableEq, Repr

/-! ### Port Link Unit -/

/-- A settling candidate: a value and how many complete cycles in a row have carried it (R14). -/
structure Candidate (α : Type) where
  value : α
  count : Nat
  deriving DecidableEq, Repr

/-- The settled values of the inbound status block (R14). -/
structure Settled where
  identity : Word
  health : Health
  pulse : Byte
  view : PeerView
  deriving DecidableEq, Repr

/-- The settling candidates of the four fields (R14). -/
structure Candidates where
  identity : Option (Candidate Word)
  health : Option (Candidate Health)
  pulse : Option (Candidate Byte)
  view : Option (Candidate PeerView)
  deriving DecidableEq, Repr

/-- No candidates. -/
def Candidates.none : Candidates := ⟨.none, .none, .none, .none⟩

/-- Where the PLU is in the inbound message stream (R8, R9, R24): waiting for a named message start, gathering a
message's bytes, or passing over the rest of a message of undefined kind. -/
inductive Rx where
  | seek
  | collect (bytes : List Byte)
  | skip (left : Nat)
  deriving DecidableEq, Repr

/-- A frame as the part sent it (R1, R2): the marker, whether the check code agrees with the contents (log 46), where the
first message that begins in the frame starts, the payload bytes that carry messages, the number of the free value that its
first payload byte would be (the bytes after `payload` are fill, log 9), and the overhead word. -/
structure OutFrame where
  marker : Nat
  good : Bool
  firstStart : Option Nat
  payload : List Byte
  fillAt : Nat
  word : Word
  deriving DecidableEq, Repr

/-- A COMPLETION of a READ that waits for its last READ DATA (R27): the READ, by the issue sequence number of its entry,
what the COMPLETION carries, and whether the server tag stays in use until then (R26, log 40). -/
structure ReadDone where
  seq : BitVec 64
  holdsTag : Bool
  tag : Word
  status : CompStatus
  detail : Word
  deriving DecidableEq, Repr

/-- A Port Link Unit (chapter 1). -/
structure Plu where
  align : Align
  run : Nat
  runMarker : Nat
  phase : Option Nat
  expected : Option Nat
  history : List Bool
  tLl : Timer
  checkErrors : Nat
  threshold : Nat
  action : CheckAction
  degraded : Bool
  settled : Settled
  cand : Candidates
  cycleWords : Option (List Word)
  rx : Rx
  localPos : Nat
  txBlock : List Word
  outQueue : List OutMsg
  dataList : List DataMsg
  turn : Turn
  tx : Option (Turn × Nat)
  readDone : List ReadDone
  lastFrame : Option OutFrame
  handover : Bool
  shiftCount : BitVec 8
  damaged : Word
  linkLoss : Word
  outDiscard : Word
  deriving DecidableEq, Repr

/-- R22: a PLU after a full reset. -/
def Plu.reset : Plu :=
  { align := .down, run := 0, runMarker := 0, phase := none, expected := none, history := [], tLl := none, checkErrors := 0,
    threshold := Settings.default.threshold, action := Settings.default.action, degraded := false,
    settled := ⟨0, .starting, 0, .unknown⟩, cand := .none, cycleWords := none, rx := .seek, localPos := 0, txBlock := [],
    outQueue := [], dataList := [], turn := .data, tx := none, readDone := [], lastFrame := none, handover := false,
    shiftCount := 0, damaged := 0, linkLoss := 0, outDiscard := 0 }

/-! ### Port Supervisor -/

/-- An ENROL whose answer is waiting (R122, R126, R128): its reference and reported epoch, the port state and the settled
identity at its acceptance, and whether it waits for its ticket in RECOVERY. -/
structure Enrolment where
  ref : Word
  epoch : Epoch
  accepted : PortState
  identity : Word
  recovery : Bool
  deriving DecidableEq, Repr

/-- A Port Supervisor (R122). -/
structure Supervisor where
  state : PortState
  cause : Cause
  stall : Nat
  confirm : Timer
  confirmed : Bool
  identity : Word
  park : Timer
  enrol : Option Enrolment
  stallDue : Bool
  deriving DecidableEq, Repr

/-- R122: a Port Supervisor after a full reset. -/
def Supervisor.reset : Supervisor :=
  { state := .offline, cause := .none, stall := 0, confirm := none, confirmed := false, identity := 0, park := none,
    enrol := none, stallDue := false }

/-! ### Ownership Controller -/

/-- An entry of the extent table (section 3.4); the owner NONE and an absent claim are `none`. -/
structure Extent where
  owner : Option Port
  policy : Policy
  epoch : Epoch
  inflight : Nat
  mark : Option Mark
  claim : Option Byte
  deriving DecidableEq, Repr

/-- A transfer record (R58), with the model's own number for it (log 30). The destination of a whole-port step is not yet
chosen while it stands in WAITING. -/
structure TransferStep where
  id : Nat
  kind : StepKind
  dest : Option (Option Port)
  extents : List Nat
  port : Option Port
  ref : Option Word
  stage : StepStage
  durable : Option Bool
  deriving DecidableEq, Repr

/-- A claim record (R69); `step` is the transfer record of a claim in TRANSFERRING, `owed` says that the holder's takeover
or park has ended and the settlement waits for marks (R73, log 21). -/
structure Claim where
  id : Byte
  claimant : Port
  first : Nat
  count : Nat
  ref : Word
  deadline : Timer
  state : ClaimState
  step : Option Nat
  owed : Bool
  deriving DecidableEq, Repr

/-- The holder of a claim is the claimant's peer (R69). -/
def Claim.holder (c : Claim) : Port := c.claimant.peer

/-- The Ownership Controller (chapters 3 and 4). E is the number of entries of the table. -/
structure Oc where
  visible : Nat
  shift : Nat
  extents : List Extent
  emap : Epoch
  ownerId : PerPort Word
  steps : List TransferStep
  nextStep : Nat
  admitDue : Bool
  claims : List Claim
  lastClaimId : Byte
  deriving DecidableEq, Repr

/-- R54, R66, R75: the Ownership Controller after a full reset. -/
def Oc.reset : Oc :=
  { visible := 0, shift := 0, extents := [], emap := 0, ownerId := ⟨0, 0⟩, steps := [], nextStep := 0, admitDue := false,
    claims := [], lastClaimId := 0 }

/-! ### Admission Unit -/

/-- The range of a READ or WRITE and its span (R41, R42). -/
structure Range where
  lba : BitVec 48
  count : Word
  f : Nat
  g : Nat
  deriving DecidableEq, Repr

/-- A queue record (R79); a FLUSH has no range. -/
structure QueueRecord where
  tag : Word
  op : Op
  range : Option Range
  epoch : Epoch
  deriving DecidableEq, Repr

/-- The window length and the guarantees in force (R95). -/
structure ShareWindow where
  length : Nat
  guar : PerPort Nat
  deriving DecidableEq, Repr

/-- The Admission Unit (chapter 5). -/
structure Au where
  queue : PerPort (List QueueRecord)
  depth : PerPort Nat
  w : Nat
  granted : PerPort Nat
  last : Port
  window : Option ShareWindow
  deriving DecidableEq, Repr

/-- R86, R97: the Admission Unit after a full reset. -/
def Au.reset : Au :=
  { queue := ⟨[], []⟩, depth := ⟨0, 0⟩, w := 0, granted := ⟨0, 0⟩, last := .b, window := none }

/-! ### Drive Command Table -/

/-- The origin of an entry (R105). -/
inductive Origin where
  | server (p : Port)
  | bridge
  deriving DecidableEq, Repr

/-- An entry of the drive command table (R105). `abort` is the abort state: none is NONE, a running T_abt is SENT.
`watched` is the set id of the takeover that watches the entry. -/
structure Entry where
  tag : Nat
  origin : Origin
  serverTag : Word
  op : Op
  range : Option Range
  epoch : Epoch
  seq : BitVec 64
  nextOffset : Nat
  cmdTimer : Timer
  abort : Timer
  watched : Option Word
  deriving DecidableEq, Repr

/-- The part's own commands to the drive (R103). -/
inductive BridgeCmd where
  | imageRead | imageWrite | imageFlush
  deriving DecidableEq, Repr

/-- What the part sends to the drive (R98). -/
inductive DriveMsg where
  | reset
  | identify
  | command (tag : Nat) (op : Op) (range : Option (Nat × Nat))
  | writeData (tag : Nat) (offset : Nat) (bytes : List Byte)
  | abort (tag : Nat)
  deriving DecidableEq, Repr

/-- The Drive Command Table (chapter 6). -/
structure Dct where
  drive : Drive
  attachTimer : Timer
  retryTimer : Timer
  reattachTimer : Timer
  reattachNo : Nat
  firstAttach : Option (Nat × Nat)
  depth : Nat
  entries : List Entry
  issueCount : BitVec 64
  clearReq : PerPort Bool
  bridgeWait : Option BridgeCmd
  prsnLow : Bool
  out : List DriveMsg
  deriving DecidableEq, Repr

/-- R121: the Drive Command Table after a full reset, with DV_PRSN at the level it has. -/
def Dct.reset (prsnLow : Bool) : Dct :=
  { drive := .absent, attachTimer := none, retryTimer := none, reattachTimer := none, reattachNo := 0, firstAttach := none,
    depth := 0, entries := [], issueCount := 0, clearReq := ⟨false, false⟩, bridgeWait := none, prsnLow := prsnLow,
    out := [] }

/-! ### Takeover Controller -/

/-- A takeover record (R143), with the transfer record it waits on. Set id 0 is none; the destination is `none` while it is
not yet chosen. -/
structure Takeover where
  cause : Option FenceCause
  setId : Word
  stage : TakeoverStage
  drain : Timer
  dest : Option (Option Port)
  count : Nat
  step : Option Nat
  deriving DecidableEq, Repr

/-- R143: a takeover record after a full reset. -/
def Takeover.reset : Takeover :=
  { cause := none, setId := 0, stage := .closed, drain := none, dest := none, count := 0, step := none }

/-- A record is open in stages FENCE to PERSIST (R143). -/
def Takeover.isOpen (t : Takeover) : Bool := t.stage != .closed

/-- An entry of the closing list (R146). -/
structure Closing where
  port : Port
  setId : Word
  dest : Option Port
  count : Nat
  step : Nat
  deriving DecidableEq, Repr

/-- A park record (R162), with the reference of its PARK and the transfer record it waits on; `cut` says that the port was
fenced while the record was in TRANSFER or PERSIST (R165, log 22). -/
structure ParkRecord where
  stage : ParkStage
  ref : Word
  step : Option Nat
  cut : Bool
  deriving DecidableEq, Repr

/-- The Takeover Controller (chapter 8). -/
structure Tc where
  records : PerPort Takeover
  closing : List Closing
  parks : PerPort (Option ParkRecord)
  fenceCount : Word
  intents : List IntentSet
  discards : BitVec 8
  deriving DecidableEq, Repr

/-- R143, R144, R146, R161, R162: the Takeover Controller after a full reset. -/
def Tc.reset : Tc :=
  { records := ⟨.reset, .reset⟩, closing := [], parks := ⟨none, none⟩, fenceCount := 0, intents := [], discards := 0 }

/-! ### Image Controller -/

/-- The block that took a change ticket, and what it needs to answer (R170). -/
inductive Taker where
  | step (id : Nat)
  | policy (p : Port) (ref : Word)
  | enrol (p : Port) (first : Bool)
  | config (clamped held : Bool)
  deriving DecidableEq, Repr

/-- A waiting change ticket (R169). -/
structure Ticket where
  generation : BitVec 32
  taker : Taker
  deriving DecidableEq, Repr

/-- A ticket that has been served and is on its way to its block (R170). -/
structure Served where
  taker : Taker
  durable : Bool
  deriving DecidableEq, Repr

/-- The Image Controller (chapter 9). -/
structure Ic where
  bridge : Bridge
  cycle : CycleState
  generation : BitVec 32
  attempt : Nat
  dirty : Bool
  contents : List Byte
  tickets : List Ticket
  imageFault : Bool
  beginDue : Bool
  served : List Served
  readBuf : List Byte
  recoveryEnrolled : Bool
  deriving DecidableEq, Repr

/-- R169, R175: the Image Controller after a full reset. -/
def Ic.reset : Ic :=
  { bridge := .starting, cycle := .idle, generation := 0, attempt := 0, dirty := false, contents := [], tickets := [],
    imageFault := false, beginDue := false, served := [], readBuf := [], recoveryEnrolled := false }

/-! ### Management Interface -/

/-- The status of an answer record: PENDING, or an answer result (section 10.1). -/
inductive MiStatus where
  | pending
  | final (r : AnsResult)
  deriving DecidableEq, Repr

/-- The flags of an answer record (R182). -/
structure MiFlags where
  notDurable : Bool
  clamped : Bool
  held : Bool
  deriving DecidableEq, Repr

/-- The answer record of the management line (R181, R182). -/
structure AnswerRecord where
  seq : Byte
  kind : Byte
  status : MiStatus
  flags : MiFlags
  body : List Byte
  deriving DecidableEq, Repr

/-- The Management Interface (chapter 10). -/
structure Mi where
  settings : Settings
  events : Word
  answer : AnswerRecord
  address : BitVec 7
  mad0 : Bool
  mad1 : Bool
  deriving DecidableEq, Repr

/-- The management address: 58h, MAD0 giving 1 and MAD1 giving 2 (10, introduction). -/
def strapAddress (mad0 mad1 : Bool) : BitVec 7 :=
  0x58#7 + (if mad0 then 1 else 0) + (if mad1 then 2 else 0)

/-- R175, R181: the Management Interface after a full reset, with the straps as they are sampled. -/
def Mi.reset (mad0 mad1 : Bool) : Mi :=
  { settings := .default, events := 0, answer := ⟨0, 0, .final .done, ⟨false, false, false⟩, []⟩,
    address := strapAddress mad0 mad1, mad0 := mad0, mad1 := mad1 }

/-! ### The state -/

/-- The state of the part, and the commands that wait, first in, first out. `fillNext` is the model's own: the number of the
next free value (log 9). -/
structure State where
  plu : PerPort Plu
  sup : PerPort Supervisor
  startWindow : Timer
  oc : Oc
  au : Au
  dct : Dct
  tc : Tc
  ic : Ic
  mi : Mi
  fillNext : Nat
  pending : List Instr
  deriving DecidableEq, Repr

/-- The part right after a full reset (R175), given the input pins, the number of the next free value and the commands that
wait, before any attach attempt. -/
def State.cleared (prsnLow mad0 mad1 : Bool) (fillNext : Nat) (pending : List Instr) : State :=
  { plu := ⟨.reset, .reset⟩, sup := ⟨.reset, .reset⟩, startWindow := none, oc := .reset, au := .reset,
    dct := .reset prsnLow, tc := .reset, ic := .reset, mi := .reset mad0 mad1, fillNext := fillNext, pending := pending }

/-- The machine right after reset: R175, with no drive seated, both straps low (log 10), the first free value next (log 9) and
no command waiting. -/
def State.reset : State := .cleared false false false 0 []

/-- Why a step may fault: nothing does. The manual gives every command an effect in every state, and names no condition in
which the part stops; so the model has no fault (log 31). -/
inductive Fault where
  deriving DecidableEq, Repr

/-- Why a step may refuse. -/
inductive Refusal where
  /-- A command that has no meaning yet: raised by an arm of exec alone, by its mnemonic. Safe: nothing is claimed of it.
  Every command has its meaning, so no arm raises it. -/
  | notModelled (mnemonic : String)
  deriving DecidableEq, Repr

/-- The outcome of a command. -/
abbrev Result := Host.Outcome State Fault Refusal

/-! ### One block replaced -/

/-- The state with one port's PLU changed. -/
def State.onPlu (s : State) (p : Port) (f : Plu → Plu) : State := { s with plu := s.plu.set p (f (s.plu.get p)) }

/-- The state with one port's supervisor changed. -/
def State.onSup (s : State) (p : Port) (f : Supervisor → Supervisor) : State :=
  { s with sup := s.sup.set p (f (s.sup.get p)) }

/-- The state with the Ownership Controller changed. -/
def State.onOc (s : State) (f : Oc → Oc) : State := { s with oc := f s.oc }

/-- The state with the Admission Unit changed. -/
def State.onAu (s : State) (f : Au → Au) : State := { s with au := f s.au }

/-- The state with the Drive Command Table changed. -/
def State.onDct (s : State) (f : Dct → Dct) : State := { s with dct := f s.dct }

/-- The state with the Takeover Controller changed. -/
def State.onTc (s : State) (f : Tc → Tc) : State := { s with tc := f s.tc }

/-- The state with the Image Controller changed. -/
def State.onIc (s : State) (f : Ic → Ic) : State := { s with ic := f s.ic }

/-- The state with the Management Interface changed. -/
def State.onMi (s : State) (f : Mi → Mi) : State := { s with mi := f s.mi }

end Sys2Proof.Machine
end

