-- ==== Sys2Proof/Machine/Flags.lean ====
section
/-! DEFINITION. The flag computations: the pending event set and ALERT (R182, R189), the flags byte of an outbound message (R30) and of an answer record (R182). -/

namespace Sys2Proof.Machine

/-- The bit of an event: its place in the event table, TAKEOVER_BEGUN 0 to EPOCH_EXHAUSTED 10 (R182). -/
def Event.bit : Event → Nat
  | .takeoverBegun => 0
  | .takeoverDone => 1
  | .portDown => 2
  | .linkDegraded => 3
  | .driveReset => 4
  | .driveLost => 5
  | .imageFault => 6
  | .clampedConfig => 7
  | .recoveryStart => 8
  | .intentDiscarded => 9
  | .epochExhausted => 10

/-- The flag of one event. -/
def Event.mask (e : Event) : Word := 1#16 <<< e.bit

/-- R189: "When a block raises an event, the MI sets that kind's flag. A flag already set stays set." -/
def raise (e : Event) (s : State) : State :=
  s.onMi fun m => { m with events := m.events ||| e.mask }

/-- The event is raised when the condition holds. -/
def raiseIf (c : Bool) (e : Event) (s : State) : State :=
  if c then raise e s else s

/-- The flag of an event is set. -/
def State.eventSet (s : State) (e : Event) : Bool := s.mi.events &&& e.mask != 0

/-- R189: "The ALERT output is driven low while at least one flag is set". -/
def State.alertLow (s : State) : Bool := s.mi.events != 0

/-- One bit of a flags byte. -/
def bitIf (c : Bool) (n : Nat) : Byte := if c then 1#8 <<< n else 0

/-- The flags byte of a message (R30). -/
def MsgFlags.byte (f : MsgFlags) : Byte :=
  bitIf f.notDurable 0 ||| bitIf f.clamped 1 ||| bitIf f.wasFenced 2 ||| bitIf f.extentsReleased 3

/-- No flags. -/
def noFlags : MsgFlags := ⟨false, false, false, false⟩

/-- NOT_DURABLE alone, when the ticket was so served. -/
def durableFlags (durable : Bool) : MsgFlags := ⟨!durable, false, false, false⟩

/-- The flags byte of an answer record (R182). -/
def MiFlags.byte (f : MiFlags) : Byte := bitIf f.notDurable 0 ||| bitIf f.clamped 1 ||| bitIf f.held 2

/-- No flags. -/
def noMiFlags : MiFlags := ⟨false, false, false⟩

end Sys2Proof.Machine
end

