-- ==== Sys2Proof/Machine/Operands.lean ====
section
/-! DEFINITION. The operand forms: fields as bytes, least significant first (R23, R182), the codes of the named values, the bytes of every outbound message, and the configuration record between its bytes, its fields and its settings. -/

namespace Sys2Proof.Machine

/-! ### Fields of several bytes -/

/-- A number in n bytes, least significant byte first (R23). -/
def leBytes : Nat → Nat → List Byte
  | 0, _ => []
  | n + 1, v => BitVec.ofNat 8 v :: leBytes n (v / 256)

/-- The number that bytes hold, least significant byte first. -/
def leNat : List Byte → Nat
  | [] => 0
  | b :: bs => b.toNat + 256 * leNat bs

/-- The field of n bytes at an offset. -/
def fieldAt (bs : List Byte) (off n : Nat) : Nat := leNat ((bs.drop off).take n)

/-- One byte at an offset. -/
def byteAt (bs : List Byte) (off : Nat) : Byte := BitVec.ofNat 8 (fieldAt bs off 1)

/-- A two-byte field at an offset. -/
def wordAt (bs : List Byte) (off : Nat) : Word := BitVec.ofNat 16 (fieldAt bs off 2)

/-! ### Codes -/

/-- R23: "A field that names a port is coded NONE 00h, A 01h, B 02h." -/
def portCode : Port → Byte
  | .a => 0x01
  | .b => 0x02

/-- The code of an owner, a destination or an absent port. -/
def ownerCode : Option Port → Byte
  | none => 0x00
  | some p => portCode p

/-- The port a code names. -/
def portOfCode (c : Byte) : Option Port :=
  if c = 0x01#8 then some .a else if c = 0x02#8 then some .b else none

/-- R36: bridge state codes. -/
def Bridge.code : Bridge → Byte
  | .starting => 0x00
  | .recovery => 0x01
  | .service => 0x02
  | .halted => 0x03

/-- R36: port state codes. -/
def PortState.code : PortState → Byte
  | .offline => 0x00
  | .linked => 0x01
  | .enrolled => 0x02
  | .suspect => 0x03
  | .held => 0x04
  | .parking => 0x05
  | .parked => 0x06
  | .fenced => 0x07

/-- R36: drive state codes. -/
def Drive.code : Drive → Byte
  | .absent => 0x00
  | .attaching => 0x01
  | .ready => 0x02
  | .resetting => 0x03
  | .lost => 0x04

/-- R33: suspicion cause codes. -/
def Cause.code : Cause → Byte
  | .none => 0x00
  | .link => 0x01
  | .stall => 0x02

/-- R33: takeover stage codes. -/
def TakeoverStage.code : TakeoverStage → Byte
  | .closed => 0x00
  | .fence => 0x01
  | .drain => 0x02
  | .transfer => 0x03
  | .persist => 0x04

/-- R182: park record stage codes, absent 00h. -/
def parkStageCode : Option ParkRecord → Byte
  | none => 0x00
  | some r =>
    match r.stage with
    | .queue => 0x01
    | .drive => 0x02
    | .transfer => 0x03
    | .persist => 0x04

/-- R182: alignment state codes. -/
def Align.code : Align → Byte
  | .down => 0x00
  | .aligned => 0x01
  | .losing => 0x02

/-- R182: image cycle state codes. -/
def CycleState.code : CycleState → Byte
  | .idle => 0x00
  | .writing => 0x01
  | .flushing => 0x02

/-- R32: fence cause codes. -/
def FenceCause.code : FenceCause → Byte
  | .liveness => 0x01
  | .self => 0x02
  | .restart => 0x03
  | .identity => 0x04
  | .parkTimeout => 0x05
  | .peerRequest => 0x06
  | .admin => 0x07
  | .absent => 0x08

/-- R182: a fence cause in READ STATE, 00h for none. -/
def causeCode : Option FenceCause → Byte
  | none => 0x00
  | some c => c.code

/-- R182: a takeover destination in READ STATE, FFh while it is not yet chosen (log 14). -/
def destCode : Option (Option Port) → Byte
  | none => 0xFF
  | some d => ownerCode d

/-- R34: read policy codes. -/
def Policy.code : Policy → Byte
  | .shared => 0x00
  | .owner => 0x01

/-- The policy a code names, in SET POLICY (R29) and in the image (R168). -/
def policyOfCode (c : Byte) : Option Policy :=
  if c = 0x00#8 then some .shared else if c = 0x01#8 then some .owner else none

/-- R34: transfer mark kind codes. -/
def StepKind.code : StepKind → Byte
  | .claim => 0x01
  | .disclaim => 0x02
  | .takeover => 0x03
  | .park => 0x04
  | .release => 0x05
  | .clear => 0x06

/-- 02, Completion statuses. -/
def CompStatus.code : CompStatus → Byte
  | .good => 0x00
  | .driveError => 0x01
  | .notOwner => 0x02
  | .staleEpoch => 0x03
  | .range => 0x04
  | .invalid => 0x05
  | .retry => 0x06
  | .notEnrolled => 0x07
  | .fenced => 0x08
  | .aborted => 0x09
  | .driveReset => 0x0A
  | .notReady => 0x0B
  | .tagInUse => 0x0C

/-- 02, Answer results. -/
def AnsResult.code : AnsResult → Byte
  | .done => 0x00
  | .granted => 0x01
  | .denied => 0x02
  | .timedOut => 0x03
  | .late => 0x04
  | .conflict => 0x05
  | .busy => 0x06
  | .retry => 0x07
  | .notFound => 0x08
  | .notEnrolled => 0x09
  | .notReady => 0x0A
  | .notOwner => 0x0B
  | .invalid => 0x0C
  | .cancelled => 0x0D
  | .refused => 0x0E
  | .exhausted => 0x0F

/-- R182: the status byte of an answer record, PENDING coded FFh. -/
def MiStatus.code : MiStatus → Byte
  | .pending => 0xFF
  | .final r => r.code

/-- R30: outcome codes of an intent entry; an entry that is still OPEN is never sent (R159). -/
def IntentOutcome.code : IntentOutcome → Byte
  | .notYet => 0x00
  | .completed => 0x01
  | .failed _ => 0x02
  | .aborted => 0x03
  | .lostInReset => 0x04

/-- R30: "The drive detail is meaningful with FAILED and is 0000h with the others." -/
def IntentOutcome.detail : IntentOutcome → Word
  | .failed d => d
  | _ => 0

/-- R32: handover kind codes. -/
def HandoverKind.code : HandoverKind → Byte
  | .takeover => 0x01
  | .park => 0x02

/-- R35: health codes; every other code is undefined. -/
def healthOfCode (c : Byte) : Option Health :=
  if c = 0x01#8 then some .starting
  else if c = 0x02#8 then some .running
  else if c = 0x03#8 then some .leaving
  else if c = 0x04#8 then some .faulted
  else none

/-- R35: peer view codes; every other code is undefined. -/
def viewOfCode (c : Byte) : Option PeerView :=
  if c = 0x01#8 then some .seen
  else if c = 0x02#8 then some .notSeen
  else if c = 0x03#8 then some .unknown
  else none

/-- A flag in one byte: clear 00h, set 01h. -/
def boolCode (b : Bool) : Byte := if b then 0x01 else 0x00

/-! ### The bytes of outbound messages -/

/-- R34: a MAP QUERY record, 9 bytes. -/
def MapRecord.bytes (r : MapRecord) : List Byte :=
  [ownerCode r.owner, r.policy.code,
   (match r.mark with | none => 0x00 | some m => m.kind.code),
   (match r.mark with | none => 0x00 | some m => ownerCode m.dest),
   r.claim] ++ leBytes 4 r.epoch.toNat

/-- R34: the fields of a MAP QUERY answer. -/
def MapView.bytes (v : MapView) : List Byte :=
  leBytes 4 v.epoch.toNat ++ leBytes 1 v.shift ++ leBytes 2 v.extents ++ leBytes 6 v.visible ++ leBytes 2 v.first ++
    leBytes 2 v.records.length ++ v.records.flatMap MapRecord.bytes

/-- R30: an intent entry in an INTENT READ answer, 16 bytes. -/
def IntentEntry.bytes (e : IntentEntry) : List Byte :=
  leBytes 1 e.tag.toNat ++ [e.outcome.code] ++ leBytes 2 e.outcome.detail.toNat ++ leBytes 4 e.epoch.toNat ++
    leBytes 6 e.lba.toNat ++ leBytes 2 e.count.toNat

/-- One slot of the two intent set slots of STATE QUERY and READ STATE; an absent set is given as zeros. -/
def setSlot (sets : List SetSummary) (n : Nat) : List Byte :=
  match sets[n]? with
  | none => [0, 0, 0, 0, 0]
  | some x => leBytes 2 x.setId.toNat ++ [portCode x.port] ++ leBytes 1 x.entries ++ leBytes 1 x.openEntries

/-- R33: the fields of a STATE QUERY answer, in the order listed there. -/
def StateView.bytes (v : StateView) : List Byte :=
  [v.bridge.code, boolCode v.orphan, v.own.code, v.cause.code, v.peer.code, v.ownStage.code, v.peerStage.code] ++
    leBytes 2 v.identity.toNat ++ [v.drive.code] ++ leBytes 1 v.depth ++ leBytes 2 v.block ++ leBytes 6 v.visible ++
    leBytes 1 v.shift ++ leBytes 2 v.extents ++ leBytes 4 v.epoch.toNat ++ [v.claim, boolCode v.handover] ++
    setSlot v.sets 0 ++ setSlot v.sets 1 ++ [boolCode v.imageFault]

/-- The kind code of the request an answer is for (R24). -/
def AnswerBody.kind : AnswerBody → Byte
  | .enrol _ _ _ => 0x10
  | .park _ => 0x11
  | .claim _ _ => 0x12
  | .yieldClaim _ => 0x13
  | .keepClaim _ => 0x14
  | .disclaim _ => 0x15
  | .setPolicy _ => 0x16
  | .takeover _ _ => 0x17
  | .mapQuery _ => 0x18
  | .intentRead _ _ _ => 0x19
  | .intentClear _ => 0x1A
  | .stateQuery _ => 0x1B

/-- The fields of an answer (R30). -/
def AnswerBody.bytes : AnswerBody → List Byte
  | .enrol epoch setId count => leBytes 4 epoch.toNat ++ leBytes 2 setId.toNat ++ leBytes 1 count
  | .park epoch => leBytes 4 epoch.toNat
  | .claim id epoch => id :: leBytes 4 epoch.toNat
  | .yieldClaim id => [id]
  | .keepClaim id => [id]
  | .disclaim epoch => leBytes 4 epoch.toNat
  | .setPolicy epoch => leBytes 4 epoch.toNat
  | .takeover target setId => target :: leBytes 2 setId.toNat
  | .mapQuery view => view.bytes
  | .intentRead setId port entries =>
    leBytes 2 setId.toNat ++ [ownerCode port] ++ leBytes 1 entries.length ++ entries.flatMap IntentEntry.bytes
  | .intentClear setId => leBytes 2 setId.toNat
  | .stateQuery view => view.bytes

/-- A message from its header fields and its body (R23): the length counts the whole message. -/
def message (kind flags : Byte) (ref : Word) (body : List Byte) : List Byte :=
  [kind, flags] ++ leBytes 2 (body.length + 6) ++ leBytes 2 ref.toNat ++ body

/-- The bytes of a queued message: COMPLETION (R28), ANSWER (R30), notices (R32). -/
def OutMsg.bytes : OutMsg → List Byte
  | .completion tag status detail => message 0x81 0 tag (status.code :: leBytes 2 detail.toNat)
  | .answer ref flags result body => message 0x90 flags.byte ref (body.kind :: result.code :: body.bytes)
  | .releaseAsk id claimant first count tRel =>
    message 0x91 0 0 ([id, portCode claimant] ++ leBytes 2 first ++ leBytes 2 count ++ leBytes 2 tRel)
  | .fenceNotice cause setId epoch => message 0x92 0 0 (cause.code :: leBytes 2 setId.toNat ++ leBytes 4 epoch.toNat)
  | .handoverNotice kind port epoch moved setId entries notDurable =>
    message 0x93 (durableFlags (!notDurable)).byte 0
      ([kind.code, portCode port] ++ leBytes 4 epoch.toNat ++ leBytes 2 moved ++ leBytes 2 setId.toNat ++
        leBytes 1 entries)

/-- The bytes of a data message (R27). -/
def DataMsg.bytes : DataMsg → List Byte
  | .transferReady tag count => message 0x83 0 tag (leBytes 4 count.toNat)
  | .readData _ tag offset bytes => message 0x82 0 tag (leBytes 4 offset.toNat ++ bytes)

/-! ### The configuration record -/

/-- R182: the 30 bytes of a configuration record. -/
def configBytes (r : RawConfig) : List Byte :=
  [r.kReq, r.window, r.guarA, r.guarB, r.depth, r.criterion] ++ leBytes 2 r.threshold.toNat ++ [r.action] ++
    leBytes 2 r.tLl.toNat ++ [r.settleCount] ++ leBytes 2 r.stallLimit.toNat ++ leBytes 2 r.tCf.toNat ++
    [r.autoTakeover, r.peerTakeover, r.destination, r.fenceMode] ++ leBytes 2 r.tDrn.toNat ++ [r.tPk, r.tCmd] ++
    leBytes 2 r.tAbt.toNat ++ leBytes 2 r.tRel.toNat ++ leBytes 2 r.tSw.toNat

/-- R182: the fields of a configuration record in its bytes. -/
def configOfBytes (b : List Byte) : RawConfig :=
  { kReq := byteAt b 0, window := byteAt b 1, guarA := byteAt b 2, guarB := byteAt b 3, depth := byteAt b 4,
    criterion := byteAt b 5, threshold := wordAt b 6, action := byteAt b 8, tLl := wordAt b 9, settleCount := byteAt b 11,
    stallLimit := wordAt b 12, tCf := wordAt b 14, autoTakeover := byteAt b 16, peerTakeover := byteAt b 17,
    destination := byteAt b 18, fenceMode := byteAt b 19, tDrn := wordAt b 20, tPk := byteAt b 22, tCmd := byteAt b 23,
    tAbt := wordAt b 24, tRel := wordAt b 26, tSw := wordAt b 28 }

/-- R184, Numbers: "A value below its range is raised to the lower limit. A value above it is lowered to the upper limit." -/
def clampTo (lo hi v : Nat) : Nat := if v < lo then lo else if hi < v then hi else v

/-- R184, Steps: a value in range that is not a whole multiple of its step is lowered to the multiple below it. -/
def stepDown (step v : Nat) : Nat := v - v % step

/-- An on/off setting's code; an undefined code is the default on. -/
def onOffOfCode (c : Byte) : Bool := c != 0x00#8

/-- R184: every field of a record brought into range. -/
def settingsOfRaw (r : RawConfig) : Settings :=
  let w := clampTo 8 64 r.window.toNat
  let gA := clampTo 0 w r.guarA.toNat
  let gB := clampTo 0 w r.guarB.toNat
  { kReq := clampTo 8 30 r.kReq.toNat
    window := w
    guar := ⟨gA, if w < gA + gB then w - gA else gB⟩
    depth := if r.depth = 8#8 then 8 else 16
    criterion := if r.criterion = 0x00#8 then .twoOfFour else if r.criterion = 0x02#8 then .fiveOfSixteen else .threeOfEight
    threshold := clampTo 1 1000 r.threshold.toNat
    action := if r.action = 0x01#8 then .research else .report
    tLl := stepDown 8 (clampTo 8 504 r.tLl.toNat)
    settleCount := if r.settleCount = 3#8 then 3 else 2
    stallLimit := clampTo 100 65000 r.stallLimit.toNat
    tCf := stepDown 100 (clampTo 100 30000 r.tCf.toNat)
    autoTakeover := onOffOfCode r.autoTakeover
    peerTakeover := onOffOfCode r.peerTakeover
    destination := if r.destination = 0x01#8 then .none else .survivor
    fenceMode := if r.fenceMode = 0x01#8 then .abort else .drain
    tDrn := clampTo 500 30000 r.tDrn.toNat
    tPk := clampTo 1 60 r.tPk.toNat
    tCmd := clampTo 1 120 r.tCmd.toNat
    tAbt := clampTo 500 10000 r.tAbt.toNat
    tRel := clampTo 100 10000 r.tRel.toNat
    tSw := clampTo 5 600 r.tSw.toNat }

/-- The record that codes the settings (R182). -/
def rawOfSettings (x : Settings) : RawConfig :=
  { kReq := .ofNat 8 x.kReq, window := .ofNat 8 x.window, guarA := .ofNat 8 x.guar.a, guarB := .ofNat 8 x.guar.b,
    depth := .ofNat 8 x.depth,
    criterion := (match x.criterion with | .twoOfFour => 0x00 | .threeOfEight => 0x01 | .fiveOfSixteen => 0x02),
    threshold := .ofNat 16 x.threshold,
    action := (match x.action with | .report => 0x00 | .research => 0x01),
    tLl := .ofNat 16 x.tLl, settleCount := .ofNat 8 x.settleCount, stallLimit := .ofNat 16 x.stallLimit,
    tCf := .ofNat 16 x.tCf, autoTakeover := boolCode x.autoTakeover, peerTakeover := boolCode x.peerTakeover,
    destination := (match x.destination with | .survivor => 0x00 | .none => 0x01),
    fenceMode := (match x.fenceMode with | .drain => 0x00 | .abort => 0x01),
    tDrn := .ofNat 16 x.tDrn, tPk := .ofNat 8 x.tPk, tCmd := .ofNat 8 x.tCmd, tAbt := .ofNat 16 x.tAbt,
    tRel := .ofNat 16 x.tRel, tSw := .ofNat 16 x.tSw }

/-- R184: "A record in which any field was changed by these steps". -/
def rawClamped (r : RawConfig) : Bool := rawOfSettings (settingsOfRaw r) != r

end Sys2Proof.Machine
end

