-- ==== Sys2Proof/Machine/Ops.lean ====
section
/-! DEFINITION. Named operations on registers, queues and tables that every block uses: handing over a message, port states, the span of an extent, timers started from the settings. -/

namespace Sys2Proof.Machine

/-! ### Reading -/

/-- R122: the state of a port. -/
def State.port (s : State) (p : Port) : PortState := (s.sup.get p).state

/-- R17: the link of a port is UP in ALIGNED and in LOSING. -/
def State.linkUp (s : State) (p : Port) : Bool := (s.plu.get p).align != .down

/-- The settings of the working configuration record (10, section 10.2). -/
def State.cfg (s : State) : Settings := s.mi.settings

/-- E: the number of entries of the extent table (R40). -/
def State.extentCount (s : State) : Nat := s.oc.extents.length

/-- R154: no port is ENROLLED and at least one is FENCED. -/
def State.orphan (s : State) : Bool :=
  s.port .a != .enrolled && s.port .b != .enrolled && (s.port .a == .fenced || s.port .b == .fenced)

/-- R52: the map epoch is saturated. -/
def State.saturated (s : State) : Bool := s.oc.emap == Config.maxEpoch

/-- The block size B of the first attach, 0 until then (R33, R101). -/
def State.blockSize (s : State) : Nat :=
  match s.dct.firstAttach with
  | none => 0
  | some (_, b) => b

/-! ### Messages -/

/-- R20: a message joins the queue; one handed over while the queue holds 192 messages is discarded and counted. -/
def Plu.handOver (m : OutMsg) (u : Plu) : Plu :=
  if u.outQueue.length < Config.outQueueMax then { u with outQueue := u.outQueue ++ [m] }
  else { u with outDiscard := satSucc u.outDiscard }

/-- R20: a block hands a message to the PLU of a port. -/
def handOver (p : Port) (m : OutMsg) (s : State) : State := s.onPlu p (·.handOver m)

/-- R30: an ANSWER to a control request of a port. -/
def answer (p : Port) (ref : Word) (flags : MsgFlags) (result : AnsResult) (body : AnswerBody) (s : State) : State :=
  handOver p (.answer ref flags result body) s

/-- R28: a COMPLETION with drive detail 0000h. -/
def complete (p : Port) (tag : Word) (status : CompStatus) (s : State) : State :=
  handOver p (.completion tag status 0) s

/-- R27: a data message joins the data list of a port. -/
def pushData (p : Port) (m : DataMsg) (s : State) : State :=
  s.onPlu p fun u => { u with dataList := u.dataList ++ [m] }

/-- R98: what the part sends to the drive. -/
def sendDrive (ms : List DriveMsg) (s : State) : State := s.onDct fun d => { d with out := d.out ++ ms }

/-! ### Counts that saturate -/

/-- A count of n more, staying at the greatest value of its width (00, Conventions). -/
def satAdd {w : Nat} (x : BitVec w) (n : Nat) : BitVec w := BitVec.ofNat w (min (x.toNat + n) (2 ^ w - 1))

/-- R9: n messages are counted as damaged. -/
def damage (p : Port) (n : Nat) (s : State) : State := s.onPlu p fun u => { u with damaged := satAdd u.damaged n }

/-! ### The extent table -/

/-- The extents f to f + n - 1. -/
def inRun (f n x : Nat) : Bool := f ≤ x && x < f + n

/-- Change the entries at the indexes that a test picks. -/
def mapExtents (pick : Nat → Bool) (g : Extent → Extent) (o : Oc) : Oc :=
  { o with extents := o.extents.mapIdx fun x e => if pick x then g e else e }

/-- The entries f to f + n - 1 that exist. -/
def Oc.run (o : Oc) (f n : Nat) : List Extent := (o.extents.drop f).take n

/-- The indexes whose entry passes a test, in index order (R58). -/
def Oc.indexes (o : Oc) (test : Extent → Bool) : List Nat :=
  (List.range o.extents.length).filter fun x =>
    match o.extents[x]? with
    | some e => test e
    | none => false

/-- The entries of an extent set. -/
def Oc.entriesOf (o : Oc) (xs : List Nat) : List Extent := xs.filterMap fun x => o.extents[x]?

/-- The port owns at least one extent. -/
def Oc.owns (o : Oc) (p : Port) : Bool := o.extents.any fun e => e.owner == some p

/-- The number of entries of a port in the drive command table (R105). -/
def Dct.portEntries (d : Dct) (p : Port) : Nat := (d.entries.filter fun e => e.origin == .server p).length

/-- R26: a server tag is in use while its command is queued, is at the drive, or has a completion that waits for its last
READ DATA (log 20), unless a drive reset ended the command, which frees its tag (log 40). -/
def State.tagInUse (s : State) (p : Port) (tag : Word) : Bool :=
  ((s.au.queue.get p).any fun q => q.tag == tag) ||
    (s.dct.entries.any fun e => e.origin == .server p && e.serverTag == tag) ||
    ((s.plu.get p).readDone.any fun r => r.holdsTag && r.tag == tag)

/-- R51: E_map takes a value; R52: EPOCH_EXHAUSTED is raised when the value is the greatest. -/
def setEpoch (v : Epoch) (s : State) : State :=
  raiseIf (v == Config.maxEpoch) .epochExhausted (s.onOc fun o => { o with emap := v })

/-! ### Port states -/

/-- R122: the port state of a port takes a value and nothing else changes. -/
def setPort (p : Port) (st : PortState) (s : State) : State := s.onSup p fun u => { u with state := st }

/-- R140: confirm timer and park timer stopped, confirmed flag clear, cause NONE, pulse-stall count 0. -/
def Supervisor.fenced (u : Supervisor) : Supervisor :=
  { u with state := .fenced, confirm := none, confirmed := false, park := none, cause := .none, stall := 0 }

/-- R129: entry to SUSPECT. -/
def suspect (p : Port) (c : Cause) (s : State) : State :=
  raise .portDown
    (s.onSup p fun u => { u with state := .suspect, cause := c, confirmed := false, confirm := some s.cfg.tCf })

/-! ### The answer record of the management line -/

/-- R181: the answer record takes a final status. -/
def finish (seq kind : Byte) (r : AnsResult) (flags : MiFlags) (body : List Byte) (s : State) : State :=
  s.onMi fun m => { m with answer := ⟨seq, kind, .final r, flags, body⟩ }

/-- R181: the request that is PENDING takes its final status. -/
def finishPending (r : AnsResult) (flags : MiFlags) (body : List Byte) (s : State) : State :=
  finish s.mi.answer.seq s.mi.answer.kind r flags body s

/-- R181: the request is taken and its answer is PENDING; flags clear, body empty (R182, log 24). -/
def beginRequest (seq kind : Byte) (s : State) : State :=
  s.onMi fun m => { m with answer := ⟨seq, kind, .pending, noMiFlags, []⟩ }

/-- R181: the answer record is not PENDING. -/
def State.miIdle (s : State) : Bool := s.mi.answer.status != .pending

end Sys2Proof.Machine
end

