-- ==== Sys2Proof/Machine/Geometry.lean ====
section
/-! DEFINITION. Extent geometry (chapter 3): the tests of a drive, k, E, spans, the table at start-up and at a rebuild. All arithmetic is exact on natural numbers. -/

namespace Sys2Proof.Machine

/-- R37: the visible capacity. -/
def visibleOf (capacity : Nat) : Nat := capacity - Config.reservedBlocks

/-- R37, R101: the drive is supported. -/
def driveSupported (capacity block depth : Nat) : Bool :=
  depth != 0 && (block == 512 || block == 4096) && 320 ≤ capacity && visibleOf capacity ≤ 2 ^ 40

/-- R101: "D is taken as 32" when above 32. -/
def takenDepth (depth : Nat) : Nat := min depth 32

/-- R39: the least k from a start on with 1024 * 2^k at or above V; n bounds the search. -/
def shiftFrom : Nat → Nat → Nat → Nat
  | 0, _, k => k
  | n + 1, v, k => if v ≤ Config.maxExtents * 2 ^ k then k else shiftFrom n v (k + 1)

/-- R39: the effective extent shift for V and k_req. Since V is at most 2^40 and k_req at most 30, the search ends by 30. -/
def shiftOf (v kReq : Nat) : Nat := shiftFrom 30 v kReq

/-- R40: E = ceil(V / 2^k). -/
def extentsOf (v k : Nat) : Nat := (v + 2 ^ k - 1) / 2 ^ k

/-- R42: the range of a command with its span. -/
def rangeOf (k : Nat) (lba : BitVec 48) (n : Word) : Range :=
  { lba := lba, count := n, f := lba.toNat / 2 ^ k, g := (lba.toNat + n.toNat - 1) / 2 ^ k }

/-- R42: the blocks of a range in one extent of its span. -/
def blocksIn (k : Nat) (r : Range) (x : Nat) : Nat :=
  min ((x + 1) * 2 ^ k) (r.lba.toNat + r.count.toNat) - max (x * 2 ^ k) r.lba.toNat

/-- R43: an extent is in a span. -/
def Range.covers (r : Range) (x : Nat) : Bool := r.f ≤ x && x ≤ r.g

/-- R54, R55: a table of E entries with owner NONE, policy SHARED and one change epoch. -/
def freshTable (e : Nat) (epoch : Epoch) : List Extent := List.replicate e ⟨none, .shared, epoch, 0, none, none⟩

/-- R39: CLAMPED_CONFIG is raised when the effective k exceeds k_req. -/
def raiseClamped (k kReq : Nat) (s : State) : State := raiseIf (kReq < k) .clampedConfig s

/-- R178, R55: k and E are computed from V and k_req, and the table is built anew with one change epoch. -/
def buildTable (kReq : Nat) (epoch : Epoch) (s : State) : State :=
  raiseClamped (shiftOf s.oc.visible kReq) kReq
    (s.onOc fun o =>
      { o with shift := shiftOf o.visible kReq, extents := freshTable (extentsOf o.visible (shiftOf o.visible kReq)) epoch })

/-- R55: the span of a queued record under the present shift. -/
def QueueRecord.respan (k : Nat) (q : QueueRecord) : QueueRecord :=
  { q with range := q.range.map fun r => rangeOf k r.lba r.count }

/-- R55: the spans of both queues are recomputed, the records keeping their order. -/
def respanQueues (s : State) : State :=
  s.onAu fun a =>
    { a with queue := ⟨a.queue.a.map (·.respan s.oc.shift), a.queue.b.map (·.respan s.oc.shift)⟩ }

/-- R55: the geometry rebuild at an accepted change of k_req. -/
def rebuild (kReq : Nat) (s : State) : State := respanQueues (buildTable kReq s.oc.emap s)

/-- R55: no extent has an owner or a mark, no transfer step is in progress and no claim is open. -/
def State.geometryFree (s : State) : Bool :=
  (s.oc.extents.all fun e => e.owner == none && e.mark == none) && s.oc.steps.isEmpty && s.oc.claims.isEmpty

end Sys2Proof.Machine
end

