-- ==== Sys2Proof/Machine/Image.lean ====
section
/-! DEFINITION. The ownership image (chapter 9): its bytes, its checksum and its tests, the change tickets and the image cycle. The byte offsets inside the header are log 15. -/

namespace Sys2Proof.Machine

/-- R166: the signature 5A3Ch. -/
def imageSignature : Nat := 0x5A3C

/-- R167: the sum that a whole image has. -/
def imageSumValue : Nat := 0x7E51

/-- The offset of the checksum word in the header (log 15). -/
def checksumOffset : Nat := 56

/-- R167: the sum of the 16-bit words of some bytes, least significant byte first, before it wraps. -/
def wordSum : List Byte → Nat
  | a :: b :: rest => a.toNat + 256 * b.toNat + wordSum rest
  | [a] => a.toNat
  | [] => 0

/-- R167: the checksum word for the sum of the other words. -/
def checksumFor (sum : Nat) : Nat := (imageSumValue + 65536 - sum % 65536) % 65536

/-- The image header before its checksum word (R166, log 15). -/
def imageHeadBytes (s : State) (generation : BitVec 32) : List Byte :=
  leBytes 2 imageSignature ++ leBytes 2 1 ++ leBytes 4 generation.toNat ++ leBytes 4 s.oc.emap.toNat ++
    leBytes 1 s.oc.shift ++ [0] ++ leBytes 2 s.oc.extents.length ++ leBytes 6 s.oc.visible ++
    leBytes 2 s.oc.ownerId.a.toNat ++ leBytes 2 s.oc.ownerId.b.toNat ++ configBytes (rawOfSettings s.mi.settings)

/-- The header bytes after the checksum word (log 15). -/
def imageTailBytes : List Byte := List.replicate 70 0

/-- R166: an entry record of 8 bytes. -/
def Extent.imageBytes (e : Extent) : List Byte := [ownerCode e.owner, e.policy.code] ++ leBytes 4 e.epoch.toNat ++ [0, 0]

/-- R166: the 1024 entry records; those at E and above are written as owner NONE, policy SHARED and e_x 0. -/
def entryBytes (s : State) : List Byte :=
  s.oc.extents.flatMap Extent.imageBytes ++ List.replicate (8 * (Config.maxExtents - s.oc.extents.length)) 0

/-- R167, R171: the image of the present state under a generation, the checksum word set last. -/
def imageOf (s : State) (generation : BitVec 32) : List Byte :=
  imageHeadBytes s generation ++
    leBytes 2 (checksumFor (wordSum (imageHeadBytes s generation) + wordSum imageTailBytes + wordSum (entryBytes s))) ++
    imageTailBytes ++ entryBytes s

/-- R166: the blocks the image takes. -/
def imageBlocks (block : Nat) : Nat := if block = 512 then 17 else 3

/-- R166: the image with the padding of its last block. -/
def paddedImage (block : Nat) (bytes : List Byte) : List Byte :=
  bytes ++ List.replicate (imageBlocks block * block - bytes.length) 0

/-! ### Reading an image -/

/-- The image in the bytes that were read; a byte that did not come reads as 0 (log 16). -/
def imageRead (buf : List Byte) : List Byte :=
  buf.take Config.imageBytes ++ List.replicate (Config.imageBytes - buf.length) 0

/-- What a valid image holds (R166). -/
structure Loaded where
  generation : BitVec 32
  epoch : Epoch
  ownerId : PerPort Word
  settings : Settings
  clamped : Bool
  shift : Nat
  extents : List Extent
  deriving DecidableEq, Repr

/-- R168: an owner code other than NONE, A or B decodes as NONE, a policy code other than SHARED or OWNER as SHARED. -/
def extentOfImage (img : List Byte) (x : Nat) : Extent :=
  { owner := portOfCode (byteAt img (128 + 8 * x)), policy := (policyOfCode (byteAt img (129 + 8 * x))).getD .shared,
    epoch := BitVec.ofNat 32 (fieldAt img (130 + 8 * x) 4), inflight := 0, mark := none, claim := none }

/-- The stored configuration record (R166, log 15). -/
def storedConfig (img : List Byte) : RawConfig := configOfBytes ((img.drop 26).take 30)

/-- R168, tests 2 to 7, in their order, for the V of the present attach. -/
def imageValid (v : Nat) (img : List Byte) : Bool :=
  let kReq := (settingsOfRaw (storedConfig img)).kReq
  fieldAt img 0 2 == imageSignature && fieldAt img 2 2 == 1 && wordSum img % 65536 == imageSumValue &&
    fieldAt img 16 6 == v && fieldAt img 12 1 == shiftOf v kReq && fieldAt img 14 2 == extentsOf v (shiftOf v kReq) &&
    ((List.range (extentsOf v (shiftOf v kReq))).all fun x => fieldAt img (130 + 8 * x) 4 ≤ fieldAt img 8 4)

/-- R168: a valid image, decoded. -/
def decodeImage (v : Nat) (img : List Byte) : Loaded :=
  let kReq := (settingsOfRaw (storedConfig img)).kReq
  { generation := BitVec.ofNat 32 (fieldAt img 4 4), epoch := BitVec.ofNat 32 (fieldAt img 8 4),
    ownerId := ⟨wordAt img 22, wordAt img 24⟩, settings := settingsOfRaw (storedConfig img),
    clamped := rawClamped (storedConfig img), shift := shiftOf v kReq,
    extents := (List.range (extentsOf v (shiftOf v kReq))).map (extentOfImage img) }

/-! ### Tickets and the cycle -/

/-- A change ticket taken while the image cycle has its state (R170, R174, log 35). -/
def Ic.takeTicket (t : Taker) (c : Ic) : Ic :=
  if c.bridge = .halted then { c with served := c.served ++ [⟨t, false⟩] }
  else if c.cycle = .idle then { c with tickets := c.tickets ++ [⟨c.generation + 1, t⟩], beginDue := true }
  else { c with tickets := c.tickets ++ [⟨c.generation + 1, t⟩], dirty := true }

/-- R170: a block takes a change ticket. -/
def takeTicket (t : Taker) (s : State) : State := s.onIc (·.takeTicket t)

/-- R171: an image cycle begins. -/
def beginCycle (s : State) : State :=
  (s.onIc fun c =>
    { c with generation := c.generation + 1, dirty := false, attempt := 1, contents := imageOf s (c.generation + 1),
             cycle := .writing, beginDue := false }).onDct fun d => { d with bridgeWait := some .imageWrite }

/-- The tickets of the cycle in progress are served, in the order in which they were taken (R170), and the cycle ends;
the next begins at once when the dirty flag is set (R172, R173). -/
def Ic.endCycle (durable : Bool) (c : Ic) : Ic :=
  { c with
    served := c.served ++ ((c.tickets.filter fun t => t.generation == c.generation).map fun t => ⟨t.taker, durable⟩),
    tickets := c.tickets.filter fun t => t.generation != c.generation, attempt := 0, cycle := .idle, beginDue := c.dirty }

/-- R172: the FLUSH completed GOOD. -/
def cycleSucceeds (s : State) : State := s.onIc fun c => { c.endCycle true with imageFault := false }

/-- R173: the WRITE or the FLUSH failed. -/
def attemptFails (s : State) : State :=
  if s.ic.attempt < 3 then
    (s.onIc fun c => { c with attempt := c.attempt + 1, cycle := .writing }).onDct fun d =>
      { d with bridgeWait := some .imageWrite }
  else raise .imageFault (s.onIc fun c => { c.endCycle false with imageFault := true })

/-- R172: the WRITE completed GOOD, and the FLUSH is handed over. -/
def writeSucceeds (s : State) : State :=
  (s.onIc fun c => { c with cycle := .flushing }).onDct fun d => { d with bridgeWait := some .imageFlush }

/-- R174: the bridge goes HALTED and the cycle is abandoned; every waiting ticket is served NOT_DURABLE. -/
def abandonCycle (s : State) : State :=
  (s.onIc fun c =>
    { c with served := c.served ++ c.tickets.map (fun t => ⟨t.taker, false⟩), tickets := [], dirty := false, attempt := 0,
             cycle := .idle, beginDue := false }).onDct fun d => { d with bridgeWait := none }

end Sys2Proof.Machine
end

