-- ==== Sys2Proof/Machine/Claims.lean ====
section
/-! DEFINITION. Claim records and transfer records in the Ownership Controller (chapter 4): marking, recording, closing, settling, admission, commit. -/

namespace Sys2Proof.Machine

/-! ### Transfer records -/

/-- R59: a step's marks are set, and its record stands in QUIESCE. The record's number is the next one (log 30). -/
def startStep (kind : StepKind) (dest : Option Port) (xs : List Nat) (port : Option Port) (ref : Option Word)
    (s : State) : State :=
  s.onOc fun o =>
    { mapExtents (fun x => xs.contains x) (fun e => { e with mark := some ⟨kind, dest⟩ }) o with
      steps := o.steps ++ [⟨o.nextStep, kind, some dest, xs, port, ref, .quiesce, none⟩], nextStep := o.nextStep + 1 }

/-- The transfer record of a number. -/
def Oc.findStep (o : Oc) (id : Nat) : Option TransferStep := o.steps.find? fun t => t.id == id

/-- One transfer record changed. -/
def changeStep (id : Nat) (g : TransferStep → TransferStep) (s : State) : State :=
  s.onOc fun o => { o with steps := o.steps.map fun t => if t.id == id then g t else t }

/-- R65, R63: a step ends; its record is removed and its marks are cleared in one action. -/
def endStep (t : TransferStep) (s : State) : State :=
  s.onOc fun o =>
    { mapExtents (fun x => t.extents.contains x) (fun e => { e with mark := none }) o with
      steps := o.steps.filter fun u => u.id != t.id }

/-! ### Claims -/

/-- The open claim of an id. -/
def Oc.findClaim (o : Oc) (id : Byte) : Option Claim := o.claims.find? fun c => c.id == id

/-- One claim record changed. -/
def changeClaim (id : Byte) (g : Claim → Claim) (s : State) : State :=
  s.onOc fun o => { o with claims := o.claims.map fun c => if c.id == id then g c else c }

/-- Section 4.2: a claim closes; its record is removed and every extent it named has its pending claim field cleared. -/
def closeClaim (id : Byte) (s : State) : State :=
  s.onOc fun o =>
    { o with claims := o.claims.filter fun c => c.id != id,
             extents := o.extents.map fun e => if e.claim == some id then { e with claim := none } else e }

/-- A claim closes and its claimant is answered, with the claim id and the current map epoch. -/
def endClaim (c : Claim) (r : AnsResult) (flags : MsgFlags) (s : State) : State :=
  answer c.claimant c.ref flags r (.claim c.id s.oc.emap) (closeClaim c.id s)

/-- R69: the ids count cyclically, 1 coming after 255. -/
def succClaimId (id : Byte) : Byte := if id = 255#8 then 1#8 else id + 1

/-- R69: the next id after the last one assigned; an id held by the other open claim is passed over. -/
def Oc.nextClaimId (o : Oc) : Byte :=
  if o.claims.any (fun c => c.id == succClaimId o.lastClaimId) then succClaimId (succClaimId o.lastClaimId)
  else succClaimId o.lastClaimId

/-- R69, R73: the claim goes to ASKING with a new deadline, and a RELEASE ASK is handed to the holder's PLU. -/
def askHolder (c : Claim) (s : State) : State :=
  handOver c.holder (.releaseAsk c.id c.claimant c.first c.count s.cfg.tRel)
    (changeClaim c.id (fun d => { d with state := .asking, deadline := some s.cfg.tRel, step := none, owed := false }) s)

/-- R70, R73: the claim goes to TRANSFERRING with a CLAIM step over an extent set. -/
def transferClaim (c : Claim) (xs : List Nat) (s : State) : State :=
  startStep .claim (some c.claimant) xs (some c.claimant) none
    (changeClaim c.id
      (fun d => { d with state := .transferring, deadline := none, step := some s.oc.nextStep, owed := false }) s)

/-- The extents f to f + n - 1 whose owner is NONE. -/
def Oc.unowned (o : Oc) (f n : Nat) : List Nat :=
  ((List.range o.extents.length).filter fun x => inRun f n x).filter fun x =>
    match o.extents[x]? with
    | some e => e.owner == none
    | none => false

/-- The extents f to f + n - 1 that exist, by index. -/
def Oc.runIndexes (o : Oc) (f n : Nat) : List Nat := (List.range o.extents.length).filter fun x => inRun f n x

/-- R73: the settlement of a claim in WAITING, by the owners of its extents. GRANTED with nothing to move carries no flag
(log 51). -/
def settleClaim (c : Claim) (s : State) : State :=
  if (s.oc.run c.first c.count).any fun e => e.owner == some c.holder then askHolder c s
  else if (s.oc.run c.first c.count).any fun e => e.owner == none then
    if s.saturated then raise .epochExhausted (endClaim c .exhausted noFlags s)
    else transferClaim c (s.oc.unowned c.first c.count) s
  else endClaim c .granted noFlags s

/-- R73: a claim whose settlement is owed is settled when none of its extents carries a mark. -/
def settleIfClear (s : State) (c : Claim) : State :=
  if c.owed && c.state == .waiting && (s.oc.run c.first c.count).all (fun e => e.mark.isNone) then settleClaim c s else s

/-- R73: "If any of the n extents then carries a mark, the settlement is made at the release of the last such step." -/
def settleOwed (s : State) : State := s.oc.claims.foldl settleIfClear s

/-- R73: the holder's takeover or park has ended, and its claims in WAITING are to be settled. -/
def oweClaims (p : Port) (s : State) : State :=
  s.onOc fun o =>
    { o with claims := o.claims.map fun c => if c.holder == p && c.state == .waiting then { c with owed := true } else c }

/-- R73: the holder leaves service; a claim in ASKING goes to WAITING without a deadline, and a settlement that was owed is
no longer owed (log 21). -/
def holderLeaves (p : Port) (s : State) : State :=
  s.onOc fun o =>
    { o with claims := o.claims.map fun c =>
        if c.holder == p && (c.state == .asking || c.state == .waiting) then
          { c with state := .waiting, deadline := none, owed := false }
        else c }

/-- The open claim of a claimant (section 4.2: at most one). -/
def Oc.claimOf (o : Oc) (p : Port) : Option Claim := o.claims.find? fun c => c.claimant == p

/-- R74: the claimant is fenced; its open claim closes and nothing is sent. -/
def claimantFenced (p : Port) (s : State) : State :=
  match s.oc.claimOf p with
  | some c => closeClaim c.id s
  | none => s

/-- R74: the claimant parks; its open claim closes CANCELLED. -/
def claimantParks (p : Port) (s : State) : State :=
  match s.oc.claimOf p with
  | some c => endClaim c .cancelled noFlags s
  | none => s

/-- R75: an open claim that is in ASKING or WAITING closes REFUSED. -/
def refuseAtHalt (s : State) (c : Claim) : State :=
  if c.state == .transferring then s else endClaim c .refused noFlags s

/-! ### Whole-port steps -/

/-- R60: an extent is concerned in a whole-port step. -/
def concernedIn (kind : StepKind) (port : Option Port) (e : Extent) : Bool :=
  match kind, port with
  | .clear, _ => e.owner.isSome || (match e.mark with | some m => m.dest.isSome | none => false)
  | _, some p => e.owner == some p || (match e.mark with | some m => m.dest == some p | none => false)
  | _, none => false

/-- R60: no extent concerned carries the mark of another step. -/
def Oc.admissible (o : Oc) (kind : StepKind) (port : Option Port) : Bool :=
  o.extents.all fun e => !(concernedIn kind port e && e.mark.isSome)

/-- R59: the extent set that a whole-port step reads at admission. -/
def Oc.wholeSet (o : Oc) (kind : StepKind) (port : Option Port) : List Nat :=
  o.indexes fun e =>
    match kind with
    | .clear => e.owner.isSome
    | _ => e.owner == port && port.isSome

/-- R150, R163, R59: the destination chosen at the admission of a whole-port step. -/
def State.chooseDest (s : State) (kind : StepKind) (port : Option Port) : Option Port :=
  match kind, port with
  | .takeover, some p => if s.cfg.destination = .survivor && s.port p.peer = .enrolled then some p.peer else none
  | .park, some p => if s.port p.peer = .enrolled then some p.peer else none
  | _, _ => none

/-- R150, R163: the Takeover Controller's record of a step takes the destination chosen. -/
def recordDest (id : Nat) (dest : Option Port) (s : State) : State :=
  s.onTc fun t =>
    { t with records :=
        ⟨if t.records.a.step == some id then { t.records.a with dest := some dest } else t.records.a,
         if t.records.b.step == some id then { t.records.b with dest := some dest } else t.records.b⟩ }

/-- A park record passes to PERSIST. -/
def ParkRecord.toPersist (id : Nat) (r : ParkRecord) : ParkRecord :=
  if r.step == some id then { r with stage := .persist } else r

/-- R150, R163: when the step enters PERSIST, the takeover or park record that waits on it passes to PERSIST. -/
def recordPersist (id : Nat) (s : State) : State :=
  s.onTc fun t =>
    { t with
      records :=
        ⟨if t.records.a.step == some id then { t.records.a with stage := .persist } else t.records.a,
         if t.records.b.step == some id then { t.records.b with stage := .persist } else t.records.b⟩
      parks := ⟨t.parks.a.map (·.toPersist id), t.parks.b.map (·.toPersist id)⟩ }

/-- R64: a step enters PERSIST and takes a change ticket. -/
def enterPersist (id : Nat) (s : State) : State :=
  takeTicket (.step id) (recordPersist id (changeStep id (fun t => { t with stage := .persist }) s))

/-- R59, R60: a whole-port step is admitted: extent set and destination are taken, and its marks are set. An empty step
passes straight to PERSIST. -/
def admitStep (t : TransferStep) (s : State) : State :=
  let xs := s.oc.wholeSet t.kind t.port
  let dest := s.chooseDest t.kind t.port
  let s := recordDest t.id dest s
  if xs.isEmpty then enterPersist t.id (changeStep t.id (fun u => { u with dest := some dest, extents := [] }) s)
  else
    (changeStep t.id (fun u => { u with dest := some dest, extents := xs, stage := .quiesce }) s).onOc
      (mapExtents (fun x => xs.contains x) fun e => { e with mark := some ⟨t.kind, dest⟩ })

/-- R60: a step in WAITING is admitted when no extent concerned carries a mark, a RELEASE also while the bridge is HALTED
(log 49). -/
def admitIfFree (s : State) (t : TransferStep) : State :=
  if t.stage == .waiting && s.oc.admissible t.kind t.port then admitStep t s else s

/-- R60: at a release, of whatever step (log 48), the OC takes the steps in WAITING in the order in which they were
requested. -/
def admitWaiting (s : State) : State := s.oc.steps.foldl admitIfFree (s.onOc fun o => { o with admitDue := false })

/-- R60: a block asks for a whole-port step; it is admitted at once when it can be, and stands in WAITING otherwise. -/
def requestStep (kind : StepKind) (port : Option Port) (ref : Option Word) (s : State) : State :=
  let t : TransferStep := ⟨s.oc.nextStep, kind, none, [], port, ref, .waiting, none⟩
  admitIfFree (s.onOc fun o => { o with steps := o.steps ++ [t], nextStep := o.nextStep + 1 }) t

/-- R61: QUIESCE is met when the in-flight write count of every extent of the set is 0. -/
def Oc.quiesceMet (o : Oc) (t : TransferStep) : Bool :=
  t.stage == .quiesce && (o.entriesOf t.extents).all fun e => e.inflight == 0

/-- R63: the kinds that may commit without a rise. -/
def StepKind.survivesSaturation : StepKind → Bool
  | .takeover | .park | .clear => true
  | _ => false

/-- R62: owner and e_x of every extent of the set; a CLEAR step also sets every read policy to SHARED. -/
def commitTable (t : TransferStep) (o : Oc) : Oc :=
  let o1 := mapExtents (fun x => t.extents.contains x) (fun e => { e with owner := t.dest.join, epoch := o.emap }) o
  if t.kind = .clear then { o1 with extents := o1.extents.map fun e => { e with policy := .shared } } else o1

/-- R62, R63: the step commits, E_map rising by one when it is not saturated, and enters PERSIST. -/
def commitStep (t : TransferStep) (s : State) : State :=
  let s := if s.saturated then raise .epochExhausted s else setEpoch (s.oc.emap + 1) s
  enterPersist t.id (s.onOc (commitTable t))

end Sys2Proof.Machine
end

