-- ==== Sys2Proof/Machine/Takeover.lean ====
section
/-! DEFINITION. The fence (R140) and what it sets in motion at once (chapter 8): the takeover record, the queue flush, the watched entries, the intent set, the notice, the drain. -/

namespace Sys2Proof.Machine

/-- R144: 1 comes after 65535. -/
def succSetId (id : Word) : Word := if id = 65535#16 then 1#16 else id + 1

/-- R144: the set ids that are passed over at a fence of a port. -/
def Tc.usedSetIds (t : Tc) (p : Port) : List Word :=
  t.intents.map (·.setId) ++ (if (t.records.get p.peer).isOpen then [(t.records.get p.peer).setId] else []) ++
    t.closing.map (·.setId)

/-- R144: the first value from a start on that is not passed over; the first argument bounds the search by the number of
values to pass over. -/
def freeSetId (used : List Word) : Nat → Word → Word
  | 0, id => id
  | n + 1, id => if used.contains id then freeSetId used n (succSetId id) else id

/-- R144: the set id of a new takeover of a port. -/
def Tc.nextSetId (t : Tc) (p : Port) : Word :=
  freeSetId (t.usedSetIds p) (t.usedSetIds p).length (succSetId t.fenceCount)

/-- R165: a fence of a PARKING port ends its park record in QUEUE and DRIVE, and cuts it off in TRANSFER and PERSIST. -/
def fencedPark : Option ParkRecord → Option ParkRecord
  | none => none
  | some r =>
    match r.stage with
    | .queue | .drive => none
    | .transfer | .persist => some { r with cut := true }

/-- R146: a takeover in PERSIST is moved to the closing list. -/
def Tc.moveClosing (p : Port) (t : Tc) : Tc :=
  match (t.records.get p).stage, (t.records.get p).step with
  | .persist, some step =>
    { t with closing :=
        t.closing ++ [⟨p, (t.records.get p).setId, (t.records.get p).dest.join, (t.records.get p).count, step⟩] }
  | _, _ => t

/-- R145: the record of a port takes the new fence, with the set id of R144. -/
def Tc.openRecord (p : Port) (cause : FenceCause) (t : Tc) : Tc :=
  { t with
    records := t.records.set p
      { cause := some cause, setId := t.nextSetId p, stage := .fence, drain := none, dest := none, count := 0,
        step := none }
    fenceCount := t.nextSetId p }

/-- R165, R146, R145: the Takeover Controller takes a fence. -/
def Tc.takeFence (p : Port) (cause : FenceCause) (t : Tc) : Tc :=
  ({ t with parks := t.parks.set p (fencedPark (t.parks.get p)) }.moveClosing p).openRecord p cause

/-- The set id of the latest takeover of a port. -/
def State.setIdOf (s : State) (p : Port) : Word := (s.tc.records.get p).setId

/-! ### Queues -/

/-- The queue of a port is emptied. -/
def clearQueue (p : Port) (s : State) : State := s.onAu fun a => { a with queue := a.queue.set p [] }

/-- Each record is answered, oldest first. -/
def answerRecords (p : Port) (status : CompStatus) (qs : List QueueRecord) (s : State) : State :=
  qs.foldl (fun s q => complete p q.tag status s) s

/-- R83: the queue of a fenced port is flushed, with FENCED answers when its link is UP. -/
def flushQueue (p : Port) (s : State) : State :=
  if s.linkUp p then answerRecords p .fenced (s.au.queue.get p) (clearQueue p s) else clearQueue p s

/-- R85: the queue of a port is emptied with NOT_READY answers. -/
def emptyQueue (p : Port) (s : State) : State :=
  answerRecords p .notReady (s.au.queue.get p) (clearQueue p s)

/-! ### Entries at the drive -/

/-- R117: every entry of the port is watched. -/
def watchEntries (p : Port) (s : State) : State :=
  s.onDct fun d =>
    { d with entries := d.entries.map fun e =>
        if e.origin == .server p then { e with watched := some (s.setIdOf p) } else e }

/-- R117: the watched WRITEs of a port, in issue order: entries join the table in the order of their issue. -/
def State.portWrites (s : State) (p : Port) : List Entry :=
  s.dct.entries.filter fun e => e.origin == .server p && e.op == .write

/-- R111: the entries of a port that an abort request acts on. -/
def Dct.abortable (d : Dct) (p : Port) : List Entry :=
  d.entries.filter fun e => e.origin == .server p && e.abort.isNone

/-- R111: ABORT is sent for an entry, its command timer is cancelled and T_abt started. -/
def Entry.sendAbort (tAbt : Nat) (e : Entry) : Entry := { e with cmdTimer := none, abort := some tAbt }

/-- R111, R147, R148: an abort is requested for every entry of a port; the ABORTs go to the drive in table order
(log 37). -/
def requestAborts (p : Port) (s : State) : State :=
  s.onDct fun d =>
    { d with
      out := d.out ++ (d.abortable p).map fun e => .abort e.tag
      entries := d.entries.map fun e =>
        if e.origin == .server p && e.abort.isNone then e.sendAbort s.cfg.tAbt else e }

/-! ### The intent list -/

/-- R156: the intent entry of a watched WRITE, with outcome OPEN. -/
def intentOf (e : Entry) : IntentEntry :=
  { tag := e.serverTag, lba := (e.range.map (·.lba)).getD 0, count := (e.range.map (·.count)).getD 0, epoch := e.epoch,
    seq := e.seq, outcome := .notYet }

/-- R157: when two sets are held, the oldest is discarded whole. -/
def discardOldest (s : State) : State :=
  if s.tc.intents.length < 2 then s
  else raise .intentDiscarded (s.onTc fun t => { t with intents := t.intents.drop 1, discards := satSucc t.discards })

/-- R145, R156: an intent set is made from the watched WRITEs, when there are any. -/
def makeIntentSet (p : Port) (s : State) : State :=
  let ws := s.portWrites p
  if ws.isEmpty then s
  else (discardOldest s).onTc fun t =>
    { t with
      intents := t.intents ++ [⟨(t.records.get p).setId, p, ws.map intentOf⟩]
      records := t.records.set p { t.records.get p with count := ws.length } }

/-- R158: an outcome is entered in the intent entry that it names, once. -/
def IntentEntry.take (seq : BitVec 64) (o : IntentOutcome) (e : IntentEntry) : IntentEntry :=
  if e.seq == seq && e.outcome == .notYet then { e with outcome := o } else e

/-- R158: the TC takes the outcome of a watched WRITE. -/
def takeOutcome (setId : Word) (seq : BitVec 64) (o : IntentOutcome) (s : State) : State :=
  s.onTc fun t =>
    { t with intents := t.intents.map fun x =>
        if x.setId == setId then { x with entries := x.entries.map (·.take seq o) } else x }

/-! ### The fence -/

/-- R145: the FENCE NOTICE, when the port's link is UP. -/
def fenceNotice (p : Port) (cause : FenceCause) (s : State) : State :=
  if s.linkUp p then handOver p (.fenceNotice cause (s.setIdOf p) s.oc.emap) s else s

/-- R147: entry to DRAIN; the report of the drive command table is asked for, and the fence mode acts on a port that has
entries at the drive. -/
def enterDrain (p : Port) (s : State) : State :=
  let s := (s.onDct fun d => { d with clearReq := d.clearReq.set p true }).onTc fun t =>
    { t with records := t.records.set p { t.records.get p with stage := .drain } }
  if s.dct.portEntries p = 0 then s
  else
    match s.cfg.fenceMode with
    | .drain => s.onTc fun t => { t with records := t.records.set p { t.records.get p with drain := some s.cfg.tDrn } }
    | .abort => requestAborts p s

/-- R145: what the Takeover Controller does with a fence, in its order. -/
def fenceAction (p : Port) (cause : FenceCause) (s : State) : State :=
  let s := s.onTc (·.takeFence p cause)
  let s := watchEntries p (flushQueue p s)
  let s := holderLeaves p (claimantFenced p s)
  let s := fenceNotice p cause (makeIntentSet p s)
  enterDrain p (raise .takeoverBegun s)

/-- R139, R140: a port is fenced. A fence of a port already FENCED does nothing, and neither does one while the bridge is
STARTING. -/
def fencePort (p : Port) (cause : FenceCause) (s : State) : State :=
  if s.port p = .fenced || s.ic.bridge = .starting then s
  else fenceAction p cause (s.onSup p Supervisor.fenced)

end Sys2Proof.Machine
end

