-- ==== Sys2Proof/Machine/Supervise.lean ====
section
/-! DEFINITION. The Port Supervisors (chapter 7): link reports, the judgement of liveness, causes that clear, immediate fences, entry to ENROLLED. -/

namespace Sys2Proof.Machine

/-- R17: the peer view of a port: the peer server's settled view of this server, held in the peer's PLU. -/
def State.viewOf (s : State) (p : Port) : PeerView := (s.plu.get p.peer).settled.view

/-- R133, R134: the port is judged while it is SUSPECT with the confirmed flag set, and while it is HELD. -/
def Supervisor.judged (u : Supervisor) : Bool := (u.state == .suspect && u.confirmed) || u.state == .held

/-- R133, R134: the liveness judgement of a port. -/
def judge (p : Port) (s : State) : State :=
  if (s.sup.get p).judged && s.port p.peer == .enrolled then
    match s.viewOf p with
    | .seen => setPort p .held s
    | .notSeen | .unknown => if s.cfg.autoTakeover then fencePort p .liveness s else setPort p .suspect s
  else s

/-- R132: the cause of a SUSPECT or HELD port clears and the port returns to ENROLLED. -/
def returnToEnrolled (p : Port) (s : State) : State :=
  s.onSup p fun u =>
    { u with state := .enrolled, confirm := none, confirmed := false, cause := .none, stall := 0 }

/-- R132, R133: the cause clears, and the peer is judged at the change of this port's state (log 19). -/
def clearCause (p : Port) (s : State) : State := judge p.peer (returnToEnrolled p s)

/-- R125: entry to ENROLLED: the settled identity is recorded here and as the owner identity of the port. -/
def enterEnrolled (p : Port) (s : State) : State :=
  let id := (s.plu.get p).settled.identity
  (s.onSup p fun u => { u with state := .enrolled, identity := id, cause := .none, stall := 0 }).onOc fun o =>
    { o with ownerId := o.ownerId.set p id }

/-- R123, R130, R132: the link-UP report. -/
def linkUpReport (p : Port) (s : State) : State :=
  match s.port p with
  | .offline => if s.ic.bridge = .starting then s else setPort p .linked s
  | .suspect | .held =>
    if (s.sup.get p).cause = .link && (s.plu.get p).settled.health = .running then clearCause p s else s
  | _ => s

/-- R131: the pulse-stall count goes to 0. -/
def clearStall (p : Port) (s : State) : State := s.onSup p fun u => { u with stall := 0 }

/-- R123, R130, R131: the link-DOWN report. -/
def linkDownReport (p : Port) (s : State) : State :=
  let s := clearStall p s
  match s.port p with
  | .linked => setPort p .offline s
  | .enrolled => suspect p .link s
  | .suspect | .held => s.onSup p fun u => { u with cause := .link }
  | _ => s

/-- R123: at the end of STARTING a port whose link is UP goes to LINKED. -/
def leaveStarting (p : Port) (s : State) : State :=
  if s.port p = .offline && s.linkUp p then setPort p .linked s else s

/-- R135: the states in which an immediate cause fences. -/
def PortState.fencedAtOnce : PortState → Bool
  | .enrolled | .suspect | .held | .parking => true
  | _ => false

/-- R135: the first immediate cause that a settled-change report carries. -/
def immediateCause (recorded : Word) (before after : Settled) : Option FenceCause :=
  if after.identity != before.identity && after.identity != recorded then some .identity
  else if (before.health == .running || before.health == .leaving) && after.health == .starting then some .restart
  else if before.health != .faulted && after.health == .faulted then some .self
  else none

/-- R132: the cause of a SUSPECT or HELD port clears at this settled change. -/
def causeClears (linkUp : Bool) (u : Supervisor) (before after : Settled) : Bool :=
  (u.state == .suspect || u.state == .held) &&
    ((u.cause == .stall && after.pulse != before.pulse) ||
      (u.cause == .link && linkUp && after.health != before.health && after.health == .running))

/-- R131: a settled change of pulse, or of health to LEAVING, sets the pulse-stall count to 0. -/
def stallClears (before after : Settled) : Bool :=
  after.pulse != before.pulse || (after.health != before.health && after.health == .leaving)

/-- R131, R132, R135: the port's own supervisor takes a settled-change report. An immediate cause fences without the clearing
of the cause that the same report would make (log 56). -/
def ownReport (p : Port) (before after : Settled) (s : State) : State :=
  match (if (s.port p).fencedAtOnce then immediateCause (s.sup.get p).identity before after else none) with
  | some c => fencePort p c s
  | none =>
    let s := if stallClears before after then clearStall p s else s
    if causeClears (s.linkUp p) (s.sup.get p) before after then clearCause p s else s

/-- R14, R17, R133: a settled-change report goes to the port's supervisor, and a change of the peer view to the other
(log 19: in that order). -/
def settledReport (p : Port) (before after : Settled) (s : State) : State :=
  let s := ownReport p before after s
  if after.view != before.view then judge p.peer s else s

/-- R133: a change of the auto takeover setting has both ports judged again. -/
def judgeBoth (s : State) : State := judge .b (judge .a s)

end Sys2Proof.Machine
end

