-- ==== Sys2Proof/Machine/Release.lean ====
section
/-! DEFINITION. The ends of transfer steps and of change tickets (R65, R170): releases, the answers and notices they carry, claims settled, ENROLs answered, entry to SERVICE. -/

namespace Sys2Proof.Machine

/-! ### Bridge states -/

/-- R95: the guarantee that a port has in a window that starts now. -/
def State.guaranteeNow (s : State) (p : Port) : Nat :=
  if s.port p = .enrolled || s.port p = .parking then s.cfg.guar.get p else 0

/-- R94, R95: a share window starts. -/
def startShareWindow (s : State) : State :=
  s.onAu fun a =>
    { a with w := 0, granted := ⟨0, 0⟩,
             window := some ⟨s.cfg.window, ⟨s.guaranteeNow .a, s.guaranteeNow .b⟩⟩ }

/-- R177, R179: SERVICE begins: the start-window timer, the first share window and the queue depths. -/
def enterService (s : State) : State :=
  let s := s.onIc fun c => { c with bridge := .service }
  let s := { s with startWindow := some s.cfg.tSw }
  startShareWindow (s.onAu fun a => { a with depth := ⟨s.cfg.depth, s.cfg.depth⟩ })

/-! ### ENROL -/

/-- R125: the newest intent set whose fenced port is this port. -/
def Tc.newestSet (t : Tc) (p : Port) : Option IntentSet := (t.intents.filter fun x => x.port == p).getLast?

/-- R30, R125: the fields of an ENROL answer. -/
def State.enrolBody (s : State) (p : Port) : AnswerBody :=
  match s.tc.newestSet p with
  | some x => .enrol s.oc.emap x.setId x.entries.length
  | none => .enrol s.oc.emap 0 0

/-- R126: the port is still in its state of acceptance, or has passed between LINKED and OFFLINE. -/
def stillAccepted (accepted now : PortState) : Bool :=
  accepted == now || ((accepted == .linked || accepted == .offline) && (now == .linked || now == .offline))

/-- R126: the conditions that a port must still meet when its release has ended. -/
def State.enrolHolds (s : State) (p : Port) (e : Enrolment) : Bool :=
  stillAccepted e.accepted (s.port p) && s.linkUp p && (s.plu.get p).settled.health == .running &&
    (s.plu.get p).settled.identity == e.identity

/-- R122: no enrolment is in progress any more. -/
def clearEnrol (p : Port) (s : State) : State := s.onSup p fun u => { u with enrol := none }

/-- R30, R126: the flags of an ENROL answered at the end of its release (log 25). -/
def releaseFlags (e : Enrolment) (durable released : Bool) : MsgFlags :=
  ⟨!durable, false, e.accepted == .fenced, released⟩

/-- R126: the RELEASE step of a port's ENROL has been released. -/
def enrolReleased (p : Port) (durable : Bool) (s : State) : State :=
  match (s.sup.get p).enrol with
  | none => s
  | some e =>
    let s := clearEnrol p s
    if s.enrolHolds p e then
      let s := enterEnrolled p s
      judge p.peer (answer p e.ref (releaseFlags e durable true) .done (s.enrolBody p) s)
    else answer p e.ref (releaseFlags e durable true) .notReady (s.enrolBody p) s

/-- R126, R63: the RELEASE step ended EXHAUSTED. So is the ENROL answered of a port that was fenced meanwhile (log 55). -/
def enrolExhausted (p : Port) (s : State) : State :=
  match (s.sup.get p).enrol with
  | none => s
  | some e => answer p e.ref (releaseFlags e true false) .exhausted (s.enrolBody p) (clearEnrol p s)

/-- R128, R179: the ticket of an ENROL accepted in RECOVERY is served; the first one brings the bridge into SERVICE. -/
def enrolServed (p : Port) (first durable : Bool) (s : State) : State :=
  let s := if first && s.ic.bridge == .recovery then enterService s else s
  match (s.sup.get p).enrol with
  | none => s
  | some e => answer p e.ref (releaseFlags e durable false) .done (s.enrolBody p) (clearEnrol p s)

/-! ### Takeover and park -/

/-- R152, R164: the HANDOVER NOTICE, when the destination is a port; R19: its handover pending flag is set (log 34). -/
def handoverNotice (kind : HandoverKind) (port : Port) (dest : Option Port) (moved : Nat) (setId : Word) (entries : Nat)
    (durable : Bool) (s : State) : State :=
  match dest with
  | none => s
  | some q =>
    (handOver q (.handoverNotice kind port s.oc.emap moved (if entries = 0 then 0 else setId) entries (!durable)) s).onPlu q
      fun u => { u with handover := true }

/-- R152: the takeover record of a port closes. Every claim that waits on the port is settled, also one that waits because
the port has enrolled again and is PARKING (log 44). -/
def closeTakeover (p : Port) (t : TransferStep) (durable : Bool) (s : State) : State :=
  let r := s.tc.records.get p
  let s := s.onTc fun c => { c with records := c.records.set p { c.records.get p with stage := .closed, step := none } }
  let s := handoverNotice .takeover p t.dest.join t.extents.length r.setId r.count durable s
  raise .takeoverDone (oweClaims p s)

/-- R146: an entry of the closing list closes; it settles no claim. -/
def closeClosing (x : Closing) (t : TransferStep) (durable : Bool) (s : State) : State :=
  let s := s.onTc fun c => { c with closing := c.closing.filter fun y => y.step != t.id }
  raise .takeoverDone (handoverNotice .takeover x.port x.dest t.extents.length x.setId x.count durable s)

/-- R65, R146, R152: the release of a TAKEOVER step. -/
def takeoverReleased (p : Port) (t : TransferStep) (durable : Bool) (s : State) : State :=
  match s.tc.closing.find? fun x => x.step == t.id with
  | some x => closeClosing x t durable s
  | none => if (s.tc.records.get p).step == some t.id then closeTakeover p t durable s else s

/-- R164: the park completes: PARKED, the timer stopped, the PARK answered. -/
def completePark (p : Port) (ref : Word) (durable : Bool) (s : State) : State :=
  answer p ref (durableFlags durable) .done (.park s.oc.emap)
    (s.onSup p fun u => { u with state := .parked, park := none })

/-- R164, R165: the release of a PARK step. A park cut off by a fence sends its notice and is not answered (log 22). -/
def parkReleased (p : Port) (t : TransferStep) (durable : Bool) (s : State) : State :=
  match s.tc.parks.get p with
  | some r =>
    if r.step == some t.id then
      let s := s.onTc fun c => { c with parks := c.parks.set p none }
      if r.cut then handoverNotice .park p t.dest.join t.extents.length 0 0 durable s
      else
        oweClaims p (handoverNotice .park p t.dest.join t.extents.length 0 0 durable (completePark p r.ref durable s))
    else handoverNotice .park p t.dest.join t.extents.length 0 0 durable s
  | none => handoverNotice .park p t.dest.join t.extents.length 0 0 durable s

/-! ### Claims and requests -/

/-- R65, R70: the release of a CLAIM step: the claim that waits on it closes GRANTED, or its requester is answered (R68),
or nothing is sent (R74). -/
def claimReleased (t : TransferStep) (durable : Bool) (s : State) : State :=
  match s.oc.claims.find? fun c => c.step == some t.id with
  | some c => endClaim c .granted (durableFlags durable) s
  | none =>
    match t.port, t.ref with
    | some p, some r => answer p r (durableFlags durable) .granted (.claim 0 s.oc.emap) s
    | _, _ => s

/-- R63, R70: a CLAIM step that ended EXHAUSTED. -/
def claimExhausted (t : TransferStep) (s : State) : State :=
  match s.oc.claims.find? fun c => c.step == some t.id with
  | some c => endClaim c .exhausted noFlags s
  | none =>
    match t.port, t.ref with
    | some p, some r => answer p r noFlags .exhausted (.claim 0 s.oc.emap) s
    | _, _ => s

/-- R65, R76: the answer to a DISCLAIM. -/
def disclaimEnded (t : TransferStep) (r : AnsResult) (flags : MsgFlags) (s : State) : State :=
  match t.port, t.ref with
  | some p, some ref => answer p ref flags r (.disclaim s.oc.emap) s
  | _, _ => s

/-- R182, R187: the body of a CLEAR MAP answer. -/
def clearMapBody (emap : Epoch) (cleared : Nat) : List Byte := leBytes 4 emap.toNat ++ leBytes 2 cleared

/-- R65, R187: the answer to CLEAR MAP. -/
def clearReleased (t : TransferStep) (durable : Bool) (s : State) : State :=
  finishPending .done ⟨!durable, false, false⟩ (clearMapBody s.oc.emap t.extents.length) s

/-! ### Release -/

/-- R65: the end of a step is reported to whoever asked for it. -/
def reportStep (t : TransferStep) (durable : Bool) (s : State) : State :=
  match t.kind, t.port with
  | .claim, _ => claimReleased t durable s
  | .disclaim, _ => disclaimEnded t .done (durableFlags durable) s
  | .takeover, some p => takeoverReleased p t durable s
  | .park, some p => parkReleased p t durable s
  | .release, some p => enrolReleased p durable s
  | .clear, _ => clearReleased t durable s
  | _, none => s

/-- R60: some step stands in WAITING. -/
def Oc.anyWaiting (o : Oc) : Bool := o.steps.any fun t => t.stage == .waiting

/-- R60, R73: what a release frees: claims whose settlement waited for marks, and then the steps in WAITING, which are to
be looked at next. -/
def afterRelease (s : State) : State :=
  (settleOwed s).onOc fun o => { o with admitDue := o.anyWaiting }

/-- R65: the step is released: its marks are cleared, its durability result is held, and its end is reported. -/
def releaseStep (t : TransferStep) (durable : Bool) (s : State) : State :=
  let s := changeStep t.id (fun u => { u with durable := some durable }) s
  afterRelease (reportStep t durable (endStep t s))

/-- R63: a CLAIM, DISCLAIM or RELEASE step that finds E_map saturated ends EXHAUSTED, without a commit. -/
def refuseCommit (t : TransferStep) (s : State) : State :=
  let s := raise .epochExhausted (endStep t s)
  afterRelease
    (match t.kind, t.port with
     | .claim, _ => claimExhausted t s
     | .disclaim, _ => disclaimEnded t .exhausted noFlags s
     | .release, some p => enrolExhausted p s
     | _, _ => s)

/-- R62, R63: a step whose QUIESCE is met. -/
def quiesceEnds (t : TransferStep) (s : State) : State :=
  if s.saturated && !t.kind.survivesSaturation then refuseCommit t s else commitStep t s

/-! ### Tickets -/

/-- R170, R172: a served ticket goes to the block that took it. -/
def deliverTicket (x : Served) (s : State) : State :=
  match x.taker with
  | .step id =>
    match s.oc.findStep id with
    | some t => releaseStep t x.durable s
    | none => s
  | .policy p ref => answer p ref (durableFlags x.durable) .done (.setPolicy s.oc.emap) s
  | .enrol p first => enrolServed p first x.durable s
  | .config clamped held => finishPending .done ⟨!x.durable, clamped, held⟩ [] s

/-- R191: a release's messages come first, then the admissions it allows, then the next release. -/
def serveNext (s : State) (x : Served) : State :=
  deliverTicket x (if s.oc.admitDue then admitWaiting s else s)

/-- R170: every served ticket goes to its block, in the order in which the tickets were taken. -/
def serveTickets (s : State) : State := s.ic.served.foldl serveNext (s.onIc fun c => { c with served := [] })

end Sys2Proof.Machine
end

