-- ==== Sys2Proof/Machine/Bridge.lean ====
section
/-! DEFINITION. The bridge between full reset and HALTED (chapter 9): attach attempts, the image read, the load, RECOVERY, HALTED, and the full reset itself. -/

namespace Sys2Proof.Machine

/-! ### Attach -/

/-- R100: an attach attempt. -/
def attachAttempt (s : State) : State :=
  s.onDct fun d =>
    { d with drive := .attaching, attachTimer := some Config.attachTime, retryTimer := none,
             out := d.out ++ [.reset, .identify] }

/-- R115: a re-attach attempt, the first or the second. -/
def reattachAttempt (no : Nat) (s : State) : State :=
  s.onDct fun d =>
    { d with reattachTimer := some Config.reattachTime, reattachNo := no, out := d.out ++ [.reset, .identify] }

/-- R175, R100: a full reset with the present levels of the pins; an attach attempt follows when a drive is seated. The
queue of commands is the world's and is kept (log 29), and so is the count of free values (log 9). -/
def fullReset (mad0 mad1 : Bool) (s : State) : State :=
  let t := State.cleared s.dct.prsnLow mad0 mad1 s.fillNext s.pending
  if s.dct.prsnLow then attachAttempt t else t

/-! ### HALTED -/

/-- R123: the ports leave STARTING. -/
def portsLeaveStarting (s : State) : State := leaveStarting .b (leaveStarting .a s)

/-- R180, R85, R75, R174: what comes about when the bridge goes HALTED. The queues are answered before the claims (log 45). -/
def enterHalted (s : State) : State :=
  let s := s.onIc fun c => { c with bridge := .halted }
  let s := emptyQueue .b (emptyQueue .a s)
  let s := s.oc.claims.foldl refuseAtHalt s
  portsLeaveStarting (abandonCycle s)

/-- R101, R115, R120, R180: the drive is given up. -/
def driveLost (s : State) : State :=
  enterHalted (raise .driveLost (s.onDct fun d =>
    { d with drive := .lost, attachTimer := none, retryTimer := none, reattachTimer := none }))

/-! ### The image read -/

/-- R178: the image is invalid, or its read has failed. -/
def enterRecovery (s : State) : State :=
  let s := buildTable Settings.default.kReq 0 s
  let s := s.onOc fun o => { o with ownerId := ⟨0, 0⟩, emap := 0 }
  let s := s.onIc fun c => { c with generation := 0, bridge := .recovery }
  portsLeaveStarting (raise .recoveryStart s)

/-- R177: a valid image is loaded. -/
def loadImage (x : Loaded) (s : State) : State :=
  let s := raiseIf x.clamped .clampedConfig (s.onMi fun m => { m with settings := x.settings })
  let s := raiseClamped x.shift x.settings.kReq
    (s.onOc fun o => { o with shift := x.shift, extents := x.extents, ownerId := x.ownerId })
  let s := setEpoch (satSucc x.epoch) s
  let s := s.onIc fun c => { c with generation := x.generation }
  portsLeaveStarting (enterService s)

/-- R168, R176: the READ of the image has ended; a read that failed makes the image invalid. -/
def imageReadEnds (good : Bool) (s : State) : State :=
  let img := imageRead s.ic.readBuf
  if good && imageValid s.oc.visible img then loadImage (decodeImage s.oc.visible img) s else enterRecovery s

/-- R108, R172, R173, R176: a bridge command has ended at the drive, done or failed. -/
def bridgeEnds (good : Bool) (s : State) : State :=
  if s.ic.bridge = .starting then imageReadEnds good s
  else
    match s.ic.cycle, good with
    | .idle, _ => s
    | .writing, true => writeSucceeds s
    | .flushing, true => cycleSucceeds s
    | _, false => attemptFails s

/-- R101, R176: the first attach of a supported drive. -/
def firstAttach (capacity block depth : Nat) (s : State) : State :=
  let s := s.onDct fun d =>
    { d with drive := .ready, attachTimer := none, firstAttach := some (capacity, block), depth := takenDepth depth,
             bridgeWait := some .imageRead }
  (s.onOc fun o => { o with visible := visibleOf capacity }).onIc fun c => { c with readBuf := [] }

/-- Read bytes put at their offset among those read so far; bytes that were passed over read as 0 (log 16). -/
def overlay (buf : List Byte) (off : Nat) (bytes : List Byte) : List Byte :=
  buf.take off ++ List.replicate (off - buf.length) 0 ++ bytes ++ buf.drop (off + bytes.length)

/-- The bytes of the image blocks (R166): what a bridge READ asks for. -/
def imageSpace (block : Nat) : Nat := imageBlocks block * block

/-- R107: read data of the bridge READ goes to the Image Controller; what lies beyond the image blocks is passed over. -/
def takeImageBytes (off : Nat) (bytes : List Byte) (s : State) : State :=
  if off < imageSpace s.blockSize then
    s.onIc fun c => { c with readBuf := (overlay c.readBuf off bytes).take (imageSpace s.blockSize) }
  else s

end Sys2Proof.Machine
end

