-- ==== Sys2Proof/Machine/DriveTable.lean ====
section
/-! DEFINITION. The Drive Command Table (chapter 6): drive tags, making an entry, ending an entry, the drive reset, port clear. -/

namespace Sys2Proof.Machine

/-! ### Tags -/

/-- R103: the bridge tag. -/
def Dct.bridgeTag (d : Dct) : Nat := d.depth - 1

/-- R103: the server drive tags. -/
def Dct.serverTags (d : Dct) : List Nat := if d.depth = 1 then [0] else List.range (d.depth - 1)

/-- A drive tag is in use while its entry is in the table (R103). -/
def Dct.tagUsed (d : Dct) (tag : Nat) : Bool := d.entries.any fun e => e.tag == tag

/-- R87, R92, R96: the lowest-numbered free server drive tag. With D = 1 tag 0 is not free for a decision while a bridge
command waits. -/
def Dct.freeTag (d : Dct) : Option Nat :=
  if d.depth = 1 && d.bridgeWait.isSome then none else d.serverTags.find? fun t => !d.tagUsed t

/-- The entry under a drive tag. -/
def Dct.find (d : Dct) (tag : Nat) : Option Entry := d.entries.find? fun e => e.tag == tag

/-- One entry changed. -/
def changeEntry (tag : Nat) (g : Entry → Entry) (s : State) : State :=
  s.onDct fun d => { d with entries := d.entries.map fun e => if e.tag == tag then g e else e }

/-! ### Making an entry -/

/-- R105, R106: an entry joins the table under the issue count, which rises. -/
def Dct.enter (e : Entry) (d : Dct) : Dct :=
  { d with entries := d.entries ++ [{ e with seq := d.issueCount }], issueCount := d.issueCount + 1 }

/-- R47, R87: the in-flight write counts of a span are raised by one. -/
def raiseInflight (r : Range) (s : State) : State :=
  s.onOc (mapExtents r.covers fun e => { e with inflight := e.inflight + 1 })

/-- R47, R109: the in-flight write counts of a span are lowered by one. -/
def lowerInflight (r : Range) (s : State) : State :=
  s.onOc (mapExtents r.covers fun e => { e with inflight := e.inflight - 1 })

/-- R98: the range that a command to the drive carries. -/
def driveRange (r : Option Range) : Option (Nat × Nat) := r.map fun x => (x.lba.toNat, x.count.toNat)

/-- R27: the byte count N * B of a command. -/
def byteCount (r : Option Range) (block : Nat) : Nat := ((r.map fun x => x.count.toNat).getD 0) * block

/-- R27, R106: a TRANSFER READY for a WRITE. -/
def transferReady (p : Port) (q : QueueRecord) (s : State) : State :=
  match q.op with
  | .write => pushData p (.transferReady q.tag (BitVec.ofNat 32 (byteCount q.range s.blockSize))) s
  | _ => s

/-- R47: the counts rise for a WRITE. -/
def countWrite (q : QueueRecord) (s : State) : State :=
  match q.op, q.range with
  | .write, some r => raiseInflight r s
  | _, _ => s

/-- R87, R106: a server command enters the table under a drive tag and goes to the drive. -/
def issueServer (p : Port) (tag : Nat) (q : QueueRecord) (s : State) : State :=
  let e : Entry := { tag := tag, origin := .server p, serverTag := q.tag, op := q.op, range := q.range, epoch := q.epoch,
                     seq := 0, nextOffset := 0, cmdTimer := some s.cfg.tCmd, abort := none, watched := none }
  let s := countWrite q (s.onDct (·.enter e))
  transferReady p q (sendDrive [.command tag q.op (driveRange q.range)] s)

/-- The op of a bridge command (R103). -/
def BridgeCmd.op : BridgeCmd → Op
  | .imageRead => .read
  | .imageWrite => .write
  | .imageFlush => .flush

/-- R106, R166, R176: what a bridge command sends to the drive: the image blocks from LBA V, and for the WRITE the image
bytes at once. -/
def bridgeMessages (c : BridgeCmd) (s : State) : List DriveMsg :=
  let tag := s.dct.bridgeTag
  let blocks := some (s.oc.visible, imageBlocks s.blockSize)
  match c with
  | .imageRead => [.command tag .read blocks]
  | .imageWrite => [.command tag .write blocks, .writeData tag 0 (paddedImage s.blockSize s.ic.contents)]
  | .imageFlush => [.command tag .flush none]

/-- R104, R106: the waiting bridge command takes the bridge tag and goes to the drive. -/
def issueBridge (c : BridgeCmd) (s : State) : State :=
  let e : Entry := { tag := s.dct.bridgeTag, origin := .bridge, serverTag := 0, op := c.op, range := none, epoch := 0,
                     seq := 0, nextOffset := 0, cmdTimer := some s.cfg.tCmd, abort := none, watched := none }
  sendDrive (bridgeMessages c s) (s.onDct fun d => { d.enter e with bridgeWait := none })

/-- R104: a bridge command waits, the drive is READY and the bridge tag is free. -/
def Dct.bridgeReady (d : Dct) : Option BridgeCmd :=
  if d.drive = .ready && !d.tagUsed d.bridgeTag then d.bridgeWait else none

/-! ### Ending an entry -/

/-- How an entry ends (R108, R112, R114). -/
inductive Ending where
  | completion (status : DriveStatus) (detail : Word)
  | aborted
  | reset
  deriving DecidableEq, Repr

/-- The completion of a server command that is not watched. -/
def Ending.status : Ending → CompStatus
  | .completion .good _ => .good
  | .completion .error _ => .driveError
  | .aborted => .aborted
  | .reset => .driveReset

/-- R28: the drive detail of the completion. -/
def Ending.detail : Ending → Word
  | .completion .error d => d
  | _ => 0

/-- R118: the outcome of a watched WRITE. -/
def Ending.outcome : Ending → IntentOutcome
  | .completion .good _ => .completed
  | .completion .error d => .failed d
  | .aborted => .aborted
  | .reset => .lostInReset

/-- R108, R112, R114: a bridge command is done on a completion GOOD, and failed on every other ending. -/
def Ending.good : Ending → Bool
  | .completion .good _ => true
  | _ => false

/-- R26: "A drive reset answers every issued command that is not watched, and frees the tags of all of them." Any other
ending keeps the tag in use until the COMPLETION is handed over (log 40). -/
def Ending.holdsTag : Ending → Bool
  | .reset => false
  | _ => true

/-- R27: READ DATA of a READ, named by its issue sequence number, is still in the data list. -/
def Plu.sending (u : Plu) (seq : BitVec 64) : Bool :=
  u.dataList.any fun m => match m with
    | .readData n _ _ _ => n == seq
    | .transferReady _ _ => false

/-- R27, R108: the COMPLETION of a server command; that of a READ waits until its last READ DATA has left the list
(log 20). -/
def completeEntry (p : Port) (e : Entry) (x : Ending) (s : State) : State :=
  if e.op = .read && (s.plu.get p).sending e.seq then
    s.onPlu p fun u =>
      { u with readDone := u.readDone ++ [⟨e.seq, x.holdsTag, e.serverTag, x.status, x.detail⟩] }
  else handOver p (.completion e.serverTag x.status x.detail) s

/-- R108, R112, R114: where the result of an entry goes, by origin and by the watched field. -/
def routeResult (e : Entry) (x : Ending) (s : State) : State :=
  match e.origin, e.watched with
  | .bridge, _ => bridgeEnds x.good s
  | .server p, none => completeEntry p e x s
  | .server _, some setId =>
    match e.op with
    | .write => takeOutcome setId e.seq x.outcome s
    | _ => s

/-- R109: the counts of a WRITE are lowered when its entry leaves. -/
def uncountWrite (e : Entry) (s : State) : State :=
  match e.op, e.range with
  | .write, some r => lowerInflight r s
  | _, _ => s

/-- R108, R112: the entry under a tag leaves the table and its result is routed. -/
def endEntry (e : Entry) (x : Ending) (s : State) : State :=
  let s := s.onDct fun d => { d with entries := d.entries.filter fun f => f.tag != e.tag }
  routeResult e x (uncountWrite e s)

/-! ### Drive reset -/

/-- R109, R114: every in-flight write count goes to 0. -/
def clearInflight (s : State) : State :=
  s.onOc fun o => { o with extents := o.extents.map fun e => { e with inflight := 0 } }

/-- R114: a drive reset starts; its entries end in table order (log 18). -/
def driveReset (s : State) : State :=
  let es := s.dct.entries
  let s := clearInflight (s.onDct fun d => { d with entries := [], drive := .resetting })
  let s := es.foldl (fun s e => routeResult e .reset s) s
  reattachAttempt 1 (raise .driveReset s)

/-! ### Port clear -/

/-- R119: a standing request whose port has no entry in the table. -/
def Dct.portIsClear (d : Dct) (p : Port) : Bool := d.clearReq.get p && d.portEntries p == 0

/-- R149, R150: the drain of a takeover ends and the TAKEOVER step is asked for. -/
def takeoverTransfer (p : Port) (s : State) : State :=
  let id := s.oc.nextStep
  requestStep .takeover (some p) none (s.onTc fun t =>
    { t with records := t.records.set p { t.records.get p with stage := .transfer, drain := none, step := some id } })

/-- R163: the drain of a park is met: the park timer is stopped and the PARK step is asked for. -/
def parkTransfer (p : Port) (r : ParkRecord) (s : State) : State :=
  let id := s.oc.nextStep
  let s := s.onSup p fun u => { u with park := none }
  requestStep .park (some p) none (s.onTc fun t =>
    { t with parks := t.parks.set p (some { r with stage := .transfer, step := some id }) })

/-- R119: the report port clear, and what it ends. -/
def reportClear (p : Port) (s : State) : State :=
  let s := s.onDct fun d => { d with clearReq := d.clearReq.set p false }
  if (s.tc.records.get p).stage = .drain then takeoverTransfer p s
  else
    match s.tc.parks.get p with
    | some r => if r.stage = .drive then parkTransfer p r s else s
    | none => s

/-- R84, R163: a park stands in QUEUE and its port's queue is empty. -/
def State.queueReportDue (s : State) (p : Port) : Bool :=
  match s.tc.parks.get p with
  | some r => r.stage == .queue && (s.au.queue.get p).isEmpty
  | none => false

/-- R163: the report that the queue is empty; the park passes to DRIVE and asks for the report port clear. -/
def reportEmpty (p : Port) (s : State) : State :=
  (s.onTc fun t => { t with parks := t.parks.set p ((t.parks.get p).map fun r => { r with stage := .drive }) }).onDct
    fun d => { d with clearReq := d.clearReq.set p true }

end Sys2Proof.Machine
end

