-- ==== Sys2Proof/Machine/Admission.lean ====
section
/-! DEFINITION. Admission and the tag arbiter (chapter 5): the arrival check, the issue check, the selection of a port, the counting of a grant, queue depths. -/

namespace Sys2Proof.Machine

/-! ### Arrival -/

/-- R41: N = 0. A FLUSH has no range. -/
def rangeEmpty : Option (BitVec 48 × Word) → Bool
  | none => false
  | some (_, n) => n == 0

/-- R41: L + N > V, the sum formed exactly. -/
def rangeBeyond (v : Nat) : Option (BitVec 48 × Word) → Bool
  | none => false
  | some (l, n) => v < l.toNat + n.toNat

/-- R78: the order of tests of the arrival check; `none` when all pass. -/
def State.arrivalCheck (s : State) (p : Port) (tag : Word) (range : Option (BitVec 48 × Word)) : Option CompStatus :=
  if s.ic.bridge != .service then some .notReady
  else if s.port p == .fenced then some .fenced
  else if s.port p != .enrolled then some .notEnrolled
  else if rangeEmpty range then some .invalid
  else if rangeBeyond s.oc.visible range then some .range
  else if s.tagInUse p tag then some .tagInUse
  else if s.au.depth.get p ≤ (s.au.queue.get p).length then some .retry
  else none

/-- R79: a record joins the tail of its port's queue. -/
def enqueue (p : Port) (q : QueueRecord) (s : State) : State :=
  s.onAu fun a => { a with queue := a.queue.set p (a.queue.get p ++ [q]) }

/-- R79: the queue record of a command, with the span of R42. -/
def State.recordOf (s : State) (tag : Word) (op : Op) (ec : Epoch) (range : Option (BitVec 48 × Word)) : QueueRecord :=
  { tag := tag, op := op, range := range.map fun r => rangeOf s.oc.shift r.1 r.2, epoch := ec }

/-- R78, R79: a drive command that has passed the PLU's tests is queued or answered. -/
def admitCommand (p : Port) (tag : Word) (op : Op) (ec : Epoch) (range : Option (BitVec 48 × Word)) (s : State) : State :=
  match s.arrivalCheck p tag range with
  | some status => complete p tag status s
  | none => enqueue p (s.recordOf tag op ec range) s

/-! ### Issue check -/

/-- R43: the entries of a span. -/
def State.spanEntries (s : State) (r : Range) : List Extent := s.oc.run r.f (r.g + 1 - r.f)

/-- An extent carries a mark whose destination is the port. -/
def Extent.comingTo (e : Extent) (p : Port) : Bool :=
  match e.mark with
  | some m => m.dest == some p
  | none => false

/-- An extent carries a mark with another destination. -/
def Extent.leavingFor (e : Extent) (p : Port) : Bool :=
  match e.mark with
  | some m => m.dest != some p
  | none => false

/-- R88: the tests of a WRITE, each over the whole span before the next. -/
def writeCheck (emap : Epoch) (p : Port) (ec : Epoch) (es : List Extent) : Option CompStatus :=
  if emap < ec then some .invalid
  else if es.any (·.comingTo p) then some .retry
  else if !es.all (fun e => e.owner == some p && !e.leavingFor p) then some .notOwner
  else if es.any (fun e => ec < e.epoch) then some .staleEpoch
  else none

/-- R89: the tests of a READ. -/
def readCheck (p : Port) (es : List Extent) : Option CompStatus :=
  if es.any (fun e => e.policy == .owner && e.comingTo p) then some .retry
  else if !es.all (fun e => e.policy != .owner || (e.owner == some p && e.mark.isNone)) then some .notOwner
  else none

/-- R87 to R90: the issue check of a queue's head; `none` when it passes. -/
def State.issueCheck (s : State) (p : Port) (q : QueueRecord) : Option CompStatus :=
  match q.op, q.range with
  | .write, some r => writeCheck s.oc.emap p q.epoch (s.spanEntries r)
  | .read, some r => readCheck p (s.spanEntries r)
  | _, _ => none

/-! ### The arbiter -/

/-- R82: the head of a port's queue is eligible. -/
def State.eligible (s : State) (p : Port) : Bool :=
  (s.port p == .enrolled || s.port p == .parking) && s.dct.drive == .ready && !(s.au.queue.get p).isEmpty

/-- R93: the port is owed as many grants as the window has left, and at least one. The grants still owed are those of its
guarantee in force that it has not had. -/
def Au.pressed (a : Au) (p : Port) : Bool :=
  match a.window with
  | none => false
  | some w => a.granted.get p < w.guar.get p && w.length - a.w ≤ w.guar.get p - a.granted.get p

/-- R93: the port selected when both heads are eligible. -/
def Au.turn (a : Au) : Port :=
  if a.pressed .a then .a else if a.pressed .b then .b else a.last.peer

/-- R93: the port that a decision selects. -/
def State.selected (s : State) : Option Port :=
  match s.eligible .a, s.eligible .b with
  | true, true => some s.au.turn
  | true, false => some .a
  | false, true => some .b
  | false, false => none

/-- R94: the grant is counted. -/
def countGrant (p : Port) (s : State) : State :=
  s.onAu fun a => { a with w := a.w + 1, granted := a.granted.set p (a.granted.get p + 1), last := p }

/-- R87, R91: the head leaves the queue. -/
def dropHead (p : Port) (s : State) : State :=
  s.onAu fun a => { a with queue := a.queue.set p (a.queue.get p).tail }

/-- R87, R91, R94: the issue check on a port's head: issued under the tag and counted, or answered. -/
def grantHead (p : Port) (tag : Nat) (q : QueueRecord) (s : State) : State :=
  match s.issueCheck p q with
  | some status => complete p q.tag status (dropHead p s)
  | none => countGrant p (issueServer p tag q (dropHead p s))

/-- R94: the window position has reached the window length. -/
def Au.windowOver (a : Au) : Bool :=
  match a.window with
  | none => false
  | some w => w.length ≤ a.w

/-- R92, R93: one decision, when a server drive tag is free and a head is eligible. -/
def arbiterDecides (s : State) : State :=
  match s.dct.freeTag, s.selected with
  | some tag, some p =>
    match s.au.queue.get p with
    | q :: _ => grantHead p tag q s
    | [] => s
  | _, _ => s

/-! ### Queue depth -/

/-- R81: a queue that holds no more records than the configured depth may take it. -/
def State.depthDue (s : State) (p : Port) : Bool :=
  s.au.depth.get p != 0 && s.au.depth.get p != s.cfg.depth && (s.au.queue.get p).length ≤ s.cfg.depth

/-- R81: the queue takes the configured depth. -/
def takeDepth (p : Port) (s : State) : State :=
  s.onAu fun a => { a with depth := a.depth.set p s.cfg.depth }

end Sys2Proof.Machine
end

