-- ==== Sys2Proof/Machine/Settle.lean ====
section
/-! DEFINITION. The internal steps that the state makes due, and the doing of them (log 2, log 3). -/

namespace Sys2Proof.Machine

/-- The internal steps of the table that the rules make happen at once. -/
inductive Due where
  | ticketServed
  | stepAdmitted
  | cycleBegin
  | bridgeIssue (c : BridgeCmd)
  | portClear (p : Port)
  | emptyReport (p : Port)
  | commit (t : TransferStep)
  | stall (p : Port)
  | depth (p : Port)
  | windowEnd
  deriving DecidableEq, Repr

/-- R61, R62: the first step whose QUIESCE is met. -/
def Oc.commitDue (o : Oc) : Option TransferStep := o.steps.find? o.quiesceMet

/-- A step that is due when its condition holds. -/
def dueIf (c : Bool) (d : Due) : Option Due := if c then some d else none

/-- The internal step that is due next, in the order of log 3, with the report port clear of one port perhaps held back
(log 41). -/
def nextDueHolding (held : Option Port) (s : State) : Option Due :=
  (dueIf (!s.ic.served.isEmpty) .ticketServed) <|>
  (dueIf s.oc.admitDue .stepAdmitted) <|>
  (dueIf s.ic.beginDue .cycleBegin) <|>
  (s.dct.bridgeReady.map .bridgeIssue) <|>
  (dueIf (s.dct.portIsClear .a && held != some .a) (.portClear .a)) <|>
  (dueIf (s.dct.portIsClear .b && held != some .b) (.portClear .b)) <|>
  (dueIf (s.queueReportDue .a) (.emptyReport .a)) <|>
  (dueIf (s.queueReportDue .b) (.emptyReport .b)) <|>
  (s.oc.commitDue.map .commit) <|>
  (dueIf (s.sup.get .a).stallDue (.stall .a)) <|>
  (dueIf (s.sup.get .b).stallDue (.stall .b)) <|>
  (dueIf (s.depthDue .a) (.depth .a)) <|>
  (dueIf (s.depthDue .b) (.depth .b)) <|>
  (dueIf s.au.windowOver .windowEnd)

/-- The internal step that is due next. -/
def nextDue (s : State) : Option Due := nextDueHolding none s

/-- R131: the pulse-stall count has reached the limit; the port goes SUSPECT when it is ENROLLED. -/
def stallLimit (p : Port) (s : State) : State :=
  let s := s.onSup p fun u => { u with stallDue := false }
  if s.port p = .enrolled then suspect p .stall s else s

/-- What an internal step does. -/
def runDue (d : Due) (s : State) : State :=
  match d with
  | .ticketServed => serveTickets s
  | .stepAdmitted => admitWaiting s
  | .cycleBegin => beginCycle s
  | .bridgeIssue c => issueBridge c s
  | .portClear p => reportClear p s
  | .emptyReport p => reportEmpty p s
  | .commit t => quiesceEnds t s
  | .stall p => stallLimit p s
  | .depth p => takeDepth p s
  | .windowEnd => startShareWindow s

/-- The due steps one after another, at most so many, with the report port clear of one port perhaps held back. -/
def settleFor (held : Option Port) : Nat → State → State
  | 0, s => s
  | n + 1, s =>
    match nextDueHolding held s with
    | some d => settleFor held n (runDue d s)
    | none => s

/-- More steps than can be due in a row: each transfer record, ticket, claim and port makes a bounded number of them. -/
def State.dueBound (s : State) : Nat :=
  32 + 8 * (s.oc.steps.length + s.oc.claims.length + s.ic.tickets.length + s.ic.served.length)

/-- Every internal step that is due is done before any other command acts (log 2). -/
def settle (s : State) : State := settleFor none s.dueBound s

/-- Every internal step that is due is done but the report port clear of one port (log 41). -/
def settleHolding (p : Port) (s : State) : State := settleFor (some p) s.dueBound s

end Sys2Proof.Machine
end

