-- ==== Sys2Proof/Machine/DriveCommands.lean ====
section
/-! DEFINITION. The commands of the drive port (chapter 6): what the drive sends, the DV_PRSN input, and the timers of the drive command table. Every one lets the internal steps that are due go first (log 2). -/

namespace Sys2Proof.Machine

/-- R100: DV_PRSN goes low. An attempt is pending while the retry time runs. -/
def prsnGoesLow (s : State) : State :=
  let due := !s.dct.prsnLow && s.dct.drive == .absent && s.dct.retryTimer.isNone
  let s := s.onDct fun d => { d with prsnLow := true }
  if due then attachAttempt s else s

/-- R102: the attempt ends and the drive goes back to ABSENT. -/
def attachEnds (retry : Timer) (s : State) : State :=
  s.onDct fun d => { d with drive := .absent, attachTimer := none, retryTimer := retry }

/-- R102, R114: DV_PRSN goes high. -/
def prsnGoesHigh (s : State) : State :=
  let edge := s.dct.prsnLow
  let s := s.onDct fun d => { d with prsnLow := false }
  if edge && s.dct.drive == .attaching then attachEnds none s
  else if edge && s.dct.drive == .ready then driveReset s
  else s

/-- R100: DV_PRSN goes low. -/
def execDvPrsnLow (s : State) : Result := .next (prsnGoesLow (settle s))

/-- R102, R114: DV_PRSN goes high. -/
def execDvPrsnHigh (s : State) : Result := .next (prsnGoesHigh (settle s))

/-- R102: the attach answer time expires; the retry time runs (R100). -/
def execAttachAnswerTimeExpiry (s : State) : Result :=
  let s := settle s
  .next (if s.dct.drive = .attaching && s.dct.attachTimer.isSome then attachEnds (some Config.retryTime) s else s)

/-- R100: the time to the next attempt has run out. -/
def retryReached (s : State) : State :=
  let s := s.onDct fun d => { d with retryTimer := none }
  if s.dct.prsnLow then attachAttempt s else s

/-- R100: 1 s after an attempt ended without an answer. -/
def execAttachRetryTimeExpiry (s : State) : Result :=
  let s := settle s
  .next (if s.dct.drive = .absent && s.dct.retryTimer.isSome then retryReached s else s)

/-- R101: an identify answer during an attach attempt. One that no attempt waits for is ignored (R98). -/
def execIdentifyAnswer (capacity block depth : Nat) (s : State) : Result :=
  let s := settle s
  .next
    (if s.dct.drive = .attaching then
      if driveSupported capacity block depth then firstAttach capacity block depth s else driveLost s
     else s)

/-- R115: the drive is READY again. -/
def reattached (depth : Nat) (s : State) : State :=
  s.onDct fun d =>
    { d with drive := .ready, depth := takenDepth depth, reattachTimer := none, reattachNo := 0 }

/-- R115: an identify answer during a re-attach attempt. -/
def execReattachIdentifyAnswer (capacity block depth : Nat) (s : State) : Result :=
  let s := settle s
  .next
    (if s.dct.drive = .resetting && s.dct.reattachTimer.isSome then
      if s.dct.firstAttach = some (capacity, block) && depth != 0 then reattached depth s else driveLost s
     else s)

/-- R115: the re-attach time expires: the second attempt, or the drive is given up. -/
def execReattachTimeExpiry (s : State) : Result :=
  let s := settle s
  .next
    (if s.dct.drive = .resetting && s.dct.reattachTimer.isSome then
      if s.dct.reattachNo < 2 then reattachAttempt 2 s else driveLost s
     else s)

/-- R108: a completion from the drive. One whose tag has no entry is ignored (R98). -/
def execDriveCompletion (tag : Nat) (status : DriveStatus) (detail : Word) (s : State) : Result :=
  let s := settle s
  .next
    (match s.dct.find tag with
     | some e => endEntry e (.completion status detail) s
     | none => s)

/-- R27, R107: read data for a server READ that is not watched, once its previous READ DATA has left the list (log 17). Each
piece is sent at the offset at which the drive delivers it; its order and its end are not tested (log 47). It is sent as one
READ DATA, whatever its size (log 54). -/
def sendReadData (p : Port) (e : Entry) (offset : BitVec 32) (bytes : List Byte) (s : State) : State :=
  if e.watched.isSome || (s.plu.get p).sending e.seq then s
  else pushData p (.readData e.seq e.serverTag offset bytes) s

/-- R107: read data from the drive for an entry. Only a READ has any. -/
def routeReadData (e : Entry) (offset : BitVec 32) (bytes : List Byte) (s : State) : State :=
  match e.op, e.origin with
  | .read, .server p => sendReadData p e offset bytes s
  | .read, .bridge => takeImageBytes offset.toNat bytes s
  | _, _ => s

/-- R107: read data from the drive. Data whose tag has no entry is ignored (R98). -/
def execDriveReadData (tag : Nat) (offset : BitVec 32) (bytes : List Byte) (s : State) : Result :=
  let s := settle s
  .next
    (match s.dct.find tag with
     | some e => routeReadData e offset bytes s
     | none => s)

/-- R112: an abort answer. NOT_FOUND is ignored, and so is one whose tag has no entry in abort state SENT. -/
def execAbortAnswer (tag : Nat) (done : Bool) (s : State) : Result :=
  let s := settle s
  .next
    (match s.dct.find tag with
     | some e => if done && e.abort.isSome then endEntry e .aborted s else s
     | none => s)

/-- R111: ABORT is sent for one entry. -/
def abortEntry (tag : Nat) (s : State) : State :=
  sendDrive [.abort tag] (changeEntry tag (·.sendAbort s.cfg.tAbt) s)

/-- R111: the command timer of an entry expires. -/
def execCommandTimerExpiry (tag : Nat) (s : State) : Result :=
  let s := settle s
  .next
    (match s.dct.find tag with
     | some e => if e.cmdTimer.isSome && e.abort.isNone then abortEntry tag s else s
     | none => s)

/-- R113: T_abt of an entry expires, and a drive reset starts. -/
def execAbortTimerExpiry (tag : Nat) (s : State) : Result :=
  let s := settle s
  .next
    (match s.dct.find tag with
     | some e => if e.abort.isSome then driveReset s else s
     | none => s)

end Sys2Proof.Machine
end

