-- ==== Sys2Proof/Machine/InternalCommands.lean ====
section
/-! DEFINITION. The internal steps as commands. Each does its step when the step is due, and nothing when it is not (log 2, log 5). ARBITER_DECISION alone is never done by another command: which head is granted when is the world's choice (log 33). -/

namespace Sys2Proof.Machine

/-- R131: the pulse-stall count of a port has reached its limit. -/
def execPulseStallLimit (p : Port) (s : State) : Result :=
  .next (if (s.sup.get p).stallDue then stallLimit p s else s)

/-- R92, R93: one decision of the tag arbiter, after the internal steps that are due. -/
def execArbiterDecision (s : State) : Result := .next (arbiterDecides (settle s))

/-- R94, R95: a share window ends and the next one starts. -/
def execShareWindowEnd (s : State) : Result := .next (if s.au.windowOver then startShareWindow s else s)

/-- R81: a queue takes a new depth. -/
def execQueueDepthTaken (p : Port) (s : State) : Result := .next (if s.depthDue p then takeDepth p s else s)

/-- R104: the waiting bridge command is issued. -/
def execBridgeCommandIssue (s : State) : Result :=
  .next
    (match s.dct.bridgeReady with
     | some c => issueBridge c s
     | none => s)

/-- R171: an image cycle begins. -/
def execImageCycleBegin (s : State) : Result := .next (if s.ic.beginDue then beginCycle s else s)

/-- R62, R63: the step of a transfer record whose QUIESCE is met commits. -/
def execQuiesceMetCommit (step : Nat) (s : State) : Result :=
  .next
    (match s.oc.findStep step with
     | some t => if s.oc.quiesceMet t then quiesceEnds t s else s
     | none => s)

/-- R60: the steps in WAITING are looked at after a release. -/
def execWaitingStepAdmitted (s : State) : Result := .next (if s.oc.admitDue then admitWaiting s else s)

/-- R170: the served tickets go to the blocks that took them. -/
def execTicketServed (s : State) : Result := .next (if s.ic.served.isEmpty then s else serveTickets s)

/-- R119: the report port clear. -/
def execPortClear (p : Port) (s : State) : Result := .next (if s.dct.portIsClear p then reportClear p s else s)

/-- R84, R163: the report that a parking port's queue is empty. -/
def execQueueEmptyReport (p : Port) (s : State) : Result := .next (if s.queueReportDue p then reportEmpty p s else s)

end Sys2Proof.Machine
end

