-- ==== Sys2Proof/Machine/Messages.lean ====
section
/-! DEFINITION. What each inbound message does (chapters 2, 4, 5, 7, 8), as an operation on the state. An aligned frame delivers whole messages through these operations, and each message row of the table acts through its own (log 6). -/

namespace Sys2Proof.Machine

/-! ### Lengths and kinds -/

/-- R24: a length out of range: everything up to the next named message start is passed over, and one message counted. -/
def lengthLost (p : Port) (s : State) : State := damage p 1 (s.onPlu p fun u => { u with rx := .seek })

/-- R24: the length tests of a message of defined kind. -/
def byLength (p : Port) (h : Header) (len : Nat) (wrong ok : State → State) (s : State) : State :=
  if !lengthInRange h.length then lengthLost p s
  else if h.length.toNat != len then wrong s
  else ok s

/-- R24, R29: a control request through its length, its field test and the test of STARTING, in that order (log 13).
`wrongBody` are the fields of an answer to a wrong length (log 14), `body` those of a refusal. -/
def request (p : Port) (h : Header) (len : Nat) (fieldsOk : Bool) (wrongBody body : AnswerBody) (serve : State → State)
    (s : State) : State :=
  byLength p h len (answer p h.ref noFlags .invalid wrongBody)
    (fun s =>
      if !fieldsOk then answer p h.ref noFlags .invalid body s
      else if s.ic.bridge == .starting then answer p h.ref noFlags .notReady body s
      else serve s) s

/-- R24, R25: a drive command through its length and its server tag. -/
def driveCommand (p : Port) (h : Header) (len : Nat) (op : Op) (ec : Epoch) (range : Option (BitVec 48 × Word))
    (s : State) : State :=
  byLength p h len (complete p h.ref .invalid)
    (fun s => if 63#16 < h.ref then complete p h.ref .invalid s else admitCommand p h.ref op ec range s) s

/-- R24: a message of undefined kind is passed over by its length and counted. -/
def takeUndefined (p : Port) (h : Header) (s : State) : State :=
  if !lengthInRange h.length then lengthLost p s else damage p 1 s

/-! ### Drive commands and data -/

/-- R78: READ. -/
def takeRead (p : Port) (h : Header) (ec : Epoch) (lba : BitVec 48) (n : Word) (s : State) : State :=
  driveCommand p h 18 .read ec (some (lba, n)) s

/-- R78: WRITE. -/
def takeWrite (p : Port) (h : Header) (ec : Epoch) (lba : BitVec 48) (n : Word) (s : State) : State :=
  driveCommand p h 18 .write ec (some (lba, n)) s

/-- R78: FLUSH. -/
def takeFlush (p : Port) (h : Header) (ec : Epoch) (s : State) : State := driveCommand p h 10 .flush ec none s

/-- R27: the issued WRITE of a port that a WRITE DATA names, when its offset is the expected one. -/
def State.writeTarget (s : State) (p : Port) (tag : Word) (offset : BitVec 32) : Option Entry :=
  s.dct.entries.find? fun e =>
    e.origin == .server p && e.op == .write && e.serverTag == tag && e.nextOffset == offset.toNat

/-- R27, R107: the bytes below N * B go to the drive, and the expected offset moves past the message's bytes. -/
def passData (e : Entry) (bytes : List Byte) (s : State) : State :=
  let kept := bytes.take (byteCount e.range s.blockSize - e.nextOffset)
  let s := changeEntry e.tag (fun f => { f with nextOffset := f.nextOffset + bytes.length }) s
  if kept.isEmpty then s else sendDrive [.writeData e.tag e.nextOffset kept] s

/-- R27: WRITE DATA; one of wrong length or that fits no issued WRITE is discarded. -/
def takeWriteData (p : Port) (h : Header) (offset : BitVec 32) (bytes : List Byte) (s : State) : State :=
  if !lengthInRange h.length then lengthLost p s
  else if h.length.toNat < 11 then s
  else
    match s.writeTarget p h.ref offset with
    | some e => passData e bytes s
    | none => s

/-! ### ENROL and PARK -/

/-- R126: a release is needed. -/
def State.releaseNeeded (s : State) (p : Port) : Bool :=
  s.oc.owns p && s.oc.ownerId.get p != (s.plu.get p).settled.identity

/-- R124, test 5: the takeover record stands in FENCE, DRAIN or TRANSFER. -/
def TakeoverStage.beforePersist : TakeoverStage → Bool
  | .fence | .drain | .transfer => true
  | _ => false

/-- R124, tests 1 to 7; `none` when the ENROL is accepted. -/
def State.enrolTest (s : State) (p : Port) : Option AnsResult :=
  if s.port p == .enrolled then some .done
  else if s.ic.bridge == .halted then some .refused
  else if s.port p == .suspect || s.port p == .held || s.port p == .parking then some .notReady
  else if (s.sup.get p).enrol.isSome then some .retry
  else if s.port p == .fenced && (s.tc.records.get p).stage.beforePersist then some .retry
  else if !s.linkUp p || (s.plu.get p).settled.health != .running || (s.plu.get p).settled.identity == 0 then some .notReady
  else if s.releaseNeeded p && s.saturated then some .exhausted
  else none

/-- R122: an enrolment in progress is recorded. -/
def recordEnrol (p : Port) (h : Header) (epoch : Epoch) (s : State) : State :=
  s.onSup p fun u =>
    { u with enrol := some ⟨h.ref, epoch, u.state, (s.plu.get p).settled.identity, s.ic.bridge == .recovery⟩ }

/-- R51, R128: E_map at an ENROL accepted in RECOVERY: it rises above a reported epoch at or above it. The first ENROL finds
E_map 0 (R178), so its reported epoch is always at or above it. -/
def recoverEpoch (epoch : Epoch) (s : State) : State :=
  if s.oc.emap ≤ epoch then setEpoch (satSucc epoch) s else s

/-- R128, R179: an ENROL accepted in RECOVERY; it is answered when its ticket is served. -/
def enrolInRecovery (p : Port) (h : Header) (epoch : Epoch) (s : State) : State :=
  let first := !s.ic.recoveryEnrolled
  let s := recoverEpoch epoch (enterEnrolled p (recordEnrol p h epoch s))
  judge p.peer (takeTicket (.enrol p first) (s.onIc fun c => { c with recoveryEnrolled := true }))

/-- R125, R127: an ENROL that needs no release. -/
def enrolNow (p : Port) (h : Header) (s : State) : State :=
  let wasFenced := s.port p == .fenced
  let s := enterEnrolled p s
  judge p.peer (answer p h.ref ⟨false, false, wasFenced, false⟩ .done (s.enrolBody p) s)

/-- R124 to R128: an ENROL that passes the field tests. -/
def serveEnrol (p : Port) (h : Header) (epoch : Epoch) (s : State) : State :=
  match s.enrolTest p with
  | some r => answer p h.ref noFlags r (s.enrolBody p) (raiseIf (r == .exhausted) .epochExhausted s)
  | none =>
    if s.ic.bridge == .recovery then enrolInRecovery p h epoch s
    else if s.releaseNeeded p then requestStep .release (some p) (some h.ref) (recordEnrol p h epoch s)
    else enrolNow p h s

/-- R124: ENROL. -/
def takeEnrol (p : Port) (h : Header) (epoch : Epoch) (s : State) : State :=
  request p h 10 true (.enrol s.oc.emap 0 0) (s.enrolBody p) (serveEnrol p h epoch) s

/-- R141, R162: a PARK is accepted. -/
def acceptPark (p : Port) (h : Header) (s : State) : State :=
  let s := s.onSup p fun u => { u with state := .parking, park := some s.cfg.tPk, stall := 0 }
  let s := s.onTc fun t => { t with parks := t.parks.set p (some ⟨.queue, h.ref, none, false⟩) }
  holderLeaves p (claimantParks p s)

/-- R141: PARK. -/
def takePark (p : Port) (h : Header) (s : State) : State :=
  request p h 6 true (.park s.oc.emap) (.park s.oc.emap)
    (fun s =>
      if s.port p == .enrolled then acceptPark p h s
      else answer p h.ref noFlags .notEnrolled (.park s.oc.emap) s) s

/-! ### Claims -/

/-- R29: first extent 0..1023 and count 1..1024. -/
def runFieldsOk (f n : Word) : Bool := f ≤ 1023#16 && 1#16 ≤ n && n ≤ 1024#16

/-- R67: some extent needs moving: its owner is not the requester. -/
def needsMoving (p : Port) (es : List Extent) : Bool := es.any fun e => e.owner != some p

/-- R67: the tests of a CLAIM, in their order; `none` when all pass. -/
def State.claimTest (s : State) (p : Port) (f n : Nat) : Option AnsResult :=
  if s.ic.bridge == .halted then some .refused
  else if s.ic.bridge == .recovery then some .notReady
  else if s.port p != .enrolled then some .notEnrolled
  else if s.extentCount < f + n then some .invalid
  else if (s.oc.claimOf p).isSome then some .busy
  else if (s.oc.run f n).any (fun e => e.claim.isSome || e.mark.isSome) then some .conflict
  else if needsMoving p (s.oc.run f n) && s.saturated then some .exhausted
  else none

/-- R69: the claim is recorded, and the holder is asked or the claim waits. -/
def recordClaim (p : Port) (ref : Word) (f n : Nat) (s : State) : State :=
  let id := s.oc.nextClaimId
  let c : Claim := ⟨id, p, f, n, ref, none, .waiting, none, false⟩
  let s := s.onOc fun o =>
    { mapExtents (inRun f n) (fun e => { e with claim := some id }) o with
      claims := o.claims ++ [c], lastClaimId := id }
  if s.port p.peer = .fenced || s.port p.peer = .parking then s else askHolder c s

/-- R68: no extent is the peer's: granted at once, or a step over the extents owned by NONE. -/
def claimUnheld (p : Port) (ref : Word) (f n : Nat) (s : State) : State :=
  if needsMoving p (s.oc.run f n) then startStep .claim (some p) (s.oc.unowned f n) (some p) (some ref) s
  else answer p ref noFlags .granted (.claim 0 s.oc.emap) s

/-- R67 to R69: a CLAIM that passes the field tests. -/
def serveClaim (p : Port) (h : Header) (f n : Nat) (s : State) : State :=
  match s.claimTest p f n with
  | some r => answer p h.ref noFlags r (.claim 0 s.oc.emap) (raiseIf (r == .exhausted) .epochExhausted s)
  | none =>
    if (s.oc.run f n).any fun e => e.owner == some p.peer then recordClaim p h.ref f n s
    else claimUnheld p h.ref f n s

/-- R67: CLAIM. -/
def takeClaim (p : Port) (h : Header) (f n : Word) (s : State) : State :=
  request p h 10 (runFieldsOk f n) (.claim 0 s.oc.emap) (.claim 0 s.oc.emap) (serveClaim p h f.toNat n.toNat) s

/-- R70, R71: the tests of the bridge state for YIELD and KEEP. -/
def State.consentTest (s : State) : Option AnsResult :=
  if s.ic.bridge == .halted then some .refused else if s.ic.bridge == .recovery then some .notReady else none

/-- R70, R71: the open claim in ASKING that has the id and whose holder is the port. -/
def Oc.askedOf (o : Oc) (p : Port) (id : Byte) : Option Claim :=
  o.claims.find? fun c => c.id == id && c.state == .asking && c.holder == p

/-- R70: an extent of the claim carries a mark or is concerned in a step that stands in WAITING. -/
def Oc.claimBlocked (o : Oc) (c : Claim) : Bool :=
  (o.run c.first c.count).any fun e =>
    e.mark.isSome || o.steps.any fun t => t.stage == .waiting && concernedIn t.kind t.port e

/-- R70: a YIELD that acts on a claim. -/
def yieldOn (p : Port) (h : Header) (c : Claim) (s : State) : State :=
  if s.oc.claimBlocked c then answer p h.ref noFlags .retry (.yieldClaim c.id) s
  else if s.saturated then
    raise .epochExhausted
      (answer p h.ref noFlags .exhausted (.yieldClaim c.id) (endClaim c .exhausted noFlags s))
  else answer p h.ref noFlags .done (.yieldClaim c.id) (transferClaim c (s.oc.runIndexes c.first c.count) s)

/-- R70: a YIELD that passes the field tests. -/
def serveYield (p : Port) (h : Header) (id : Byte) (s : State) : State :=
  match s.consentTest, s.oc.askedOf p id with
  | some r, _ => answer p h.ref noFlags r (.yieldClaim id) s
  | none, some c => yieldOn p h c s
  | none, none => answer p h.ref noFlags .late (.yieldClaim id) s

/-- R70: YIELD. -/
def takeYield (p : Port) (h : Header) (id : Byte) (s : State) : State :=
  request p h 7 (id != 0) (.yieldClaim 0) (.yieldClaim id) (serveYield p h id) s

/-- R71: a KEEP that passes the field tests. -/
def serveKeep (p : Port) (h : Header) (id : Byte) (s : State) : State :=
  match s.consentTest, s.oc.askedOf p id with
  | some r, _ => answer p h.ref noFlags r (.keepClaim id) s
  | none, some c => answer p h.ref noFlags .done (.keepClaim id) (endClaim c .denied noFlags s)
  | none, none => answer p h.ref noFlags .late (.keepClaim id) s

/-- R71: KEEP. -/
def takeKeep (p : Port) (h : Header) (id : Byte) (s : State) : State :=
  request p h 7 (id != 0) (.keepClaim 0) (.keepClaim id) (serveKeep p h id) s

/-- R76, R77: the tests that DISCLAIM and SET POLICY share, in their order. -/
def State.ownerTest (s : State) (p : Port) (f n : Nat) : Option AnsResult :=
  if s.ic.bridge == .halted then some .refused
  else if s.ic.bridge == .recovery then some .notReady
  else if s.port p != .enrolled then some .notEnrolled
  else if s.extentCount < f + n then some .invalid
  else if needsMoving p (s.oc.run f n) then some .notOwner
  else none

/-- R76: the tests of a DISCLAIM. -/
def State.disclaimTest (s : State) (p : Port) (f n : Nat) : Option AnsResult :=
  match s.ownerTest p f n with
  | some r => some r
  | none =>
    if (s.oc.run f n).any (fun e => e.mark.isSome || e.claim.isSome) then some .conflict
    else if s.saturated then some .exhausted
    else none

/-- R76: a DISCLAIM that passes the field tests. -/
def serveDisclaim (p : Port) (h : Header) (f n : Nat) (s : State) : State :=
  match s.disclaimTest p f n with
  | some r => answer p h.ref noFlags r (.disclaim s.oc.emap) (raiseIf (r == .exhausted) .epochExhausted s)
  | none => startStep .disclaim none (s.oc.runIndexes f n) (some p) (some h.ref) s

/-- R76: DISCLAIM. -/
def takeDisclaim (p : Port) (h : Header) (f n : Word) (s : State) : State :=
  request p h 10 (runFieldsOk f n) (.disclaim s.oc.emap) (.disclaim s.oc.emap) (serveDisclaim p h f.toNat n.toNat) s

/-- R77: the tests of a SET POLICY. -/
def State.policyTest (s : State) (p : Port) (f n : Nat) : Option AnsResult :=
  match s.ownerTest p f n with
  | some r => some r
  | none => if (s.oc.run f n).any (fun e => e.mark.isSome) then some .conflict else none

/-- R77: the read policy of the extents is set at once. -/
def applyPolicy (f n : Nat) (x : Policy) (s : State) : State :=
  s.onOc (mapExtents (inRun f n) fun e => { e with policy := x })

/-- R77: a SET POLICY that passes the field tests. -/
def servePolicy (p : Port) (h : Header) (f n : Nat) (x : Policy) (s : State) : State :=
  match s.policyTest p f n with
  | some r => answer p h.ref noFlags r (.setPolicy s.oc.emap) s
  | none => takeTicket (.policy p h.ref) (applyPolicy f n x s)

/-- R77: SET POLICY. -/
def takeSetPolicy (p : Port) (h : Header) (f n : Word) (code : Byte) (s : State) : State :=
  request p h 11 (runFieldsOk f n && (policyOfCode code).isSome) (.setPolicy s.oc.emap) (.setPolicy s.oc.emap)
    (servePolicy p h f.toNat n.toNat ((policyOfCode code).getD .shared)) s

/-! ### TAKEOVER -/

/-- R136: the tests of a TAKEOVER of the peer; `none` when the target is to be fenced. -/
def State.takeoverTest (s : State) (p : Port) : Option AnsResult :=
  if s.port p != .enrolled then some .notEnrolled
  else if !s.cfg.peerTakeover then some .refused
  else if s.port p.peer == .fenced then some (if (s.tc.records.get p.peer).isOpen then .busy else .done)
  else none

/-- R136: a TAKEOVER that passes the field tests. -/
def serveTakeover (p : Port) (h : Header) (s : State) : State :=
  match s.takeoverTest p with
  | some r => answer p h.ref noFlags r (.takeover (portCode p.peer) 0) s
  | none =>
    let s := fencePort p.peer .peerRequest s
    answer p h.ref noFlags .done (.takeover (portCode p.peer) (s.setIdOf p.peer)) s

/-- R30: the target port as an answer carries it; a code that names no port is carried as 0 (log 14). -/
def targetField (target : Byte) : Byte := if (portOfCode target).isSome then target else 0

/-- R136: TAKEOVER. -/
def takeTakeover (p : Port) (h : Header) (target : Byte) (s : State) : State :=
  request p h 7 (portOfCode target == some p.peer) (.takeover 0 0) (.takeover (targetField target) 0) (serveTakeover p h) s

/-! ### Queries and the intent list -/

/-- R34, R57: the record of one entry. -/
def Extent.record (e : Extent) : MapRecord := ⟨e.owner, e.policy, e.mark, e.claim.getD 0, e.epoch⟩

/-- R34: the fields of an answer that serves nothing (log 14). -/
def State.emptyView (s : State) : MapView := ⟨s.oc.emap, 0, 0, 0, 0, []⟩

/-- R34: the count served. -/
def State.served (s : State) (f n : Nat) : Nat := min (min n 256) (s.extentCount - f)

/-- R34: the view from extent f. -/
def State.mapView (s : State) (f n : Nat) : MapView :=
  ⟨s.oc.emap, s.oc.shift, s.extentCount, s.oc.visible, f, (s.oc.run f (s.served f n)).map Extent.record⟩

/-- R34: a MAP QUERY that passes the field tests. -/
def serveMapQuery (p : Port) (h : Header) (f n : Nat) (s : State) : State :=
  if s.extentCount = 0 then answer p h.ref noFlags .notReady (.mapQuery s.emptyView) s
  else if s.extentCount ≤ f then answer p h.ref noFlags .invalid (.mapQuery s.emptyView) s
  else answer p h.ref ⟨false, s.served f n < n, false, false⟩ .done (.mapQuery (s.mapView f n)) s

/-- R19: the handover pending flag of a port is cleared. -/
def clearHandover (p : Port) (s : State) : State := s.onPlu p fun u => { u with handover := false }

/-- R19, R34: MAP QUERY; its arrival as a whole message clears the handover pending flag, whatever its answer (log 26). -/
def takeMapQuery (p : Port) (h : Header) (f n : Word) (s : State) : State :=
  request p h 10 (f ≤ 1023#16 && n != 0) (.mapQuery s.emptyView) (.mapQuery s.emptyView)
    (serveMapQuery p h f.toNat n.toNat) (if lengthInRange h.length then clearHandover p s else s)

/-- R156: the set of an id. -/
def Tc.findSet (t : Tc) (setId : Word) : Option IntentSet := t.intents.find? fun x => x.setId == setId

/-- R159: an INTENT READ that passes the field tests. -/
def serveIntentRead (p : Port) (h : Header) (setId : Word) (s : State) : State :=
  match s.tc.findSet setId with
  | none => answer p h.ref noFlags .notFound (.intentRead setId none []) s
  | some x =>
    if x.entries.any fun e => e.outcome == .notYet then
      answer p h.ref noFlags .retry (.intentRead setId (some x.port) []) s
    else answer p h.ref noFlags .done (.intentRead setId (some x.port) x.entries) s

/-- R159: INTENT READ. -/
def takeIntentRead (p : Port) (h : Header) (setId : Word) (s : State) : State :=
  request p h 8 (setId != 0) (.intentRead 0 none []) (.intentRead setId none []) (serveIntentRead p h setId) s

/-- R160: a set is removed with all its entries. -/
def removeSet (setId : Word) (s : State) : State :=
  s.onTc fun t => { t with intents := t.intents.filter fun x => x.setId != setId }

/-- R160: an INTENT CLEAR that passes the field tests. -/
def serveIntentClear (p : Port) (h : Header) (setId : Word) (s : State) : State :=
  if s.port p != .enrolled then answer p h.ref noFlags .notEnrolled (.intentClear setId) s
  else if (s.tc.findSet setId).isNone then answer p h.ref noFlags .notFound (.intentClear setId) s
  else answer p h.ref noFlags .done (.intentClear setId) (removeSet setId s)

/-- R160: INTENT CLEAR. -/
def takeIntentClear (p : Port) (h : Header) (setId : Word) (s : State) : State :=
  request p h 8 (setId != 0) (.intentClear 0) (.intentClear setId) (serveIntentClear p h setId) s

/-- R33: what is shown of an intent set. -/
def IntentSet.summary (x : IntentSet) : SetSummary :=
  ⟨x.setId, x.port, x.entries.length, (x.entries.filter fun e => e.outcome == .notYet).length⟩

/-- R33: the fields of a STATE QUERY answer, taken together. -/
def State.view (s : State) (p : Port) : StateView :=
  { bridge := s.ic.bridge, orphan := s.orphan, own := s.port p, cause := (s.sup.get p).cause, peer := s.port p.peer,
    ownStage := (s.tc.records.get p).stage, peerStage := (s.tc.records.get p.peer).stage,
    identity := (s.sup.get p).identity, drive := s.dct.drive, depth := s.dct.depth, block := s.blockSize,
    visible := s.oc.visible, shift := s.oc.shift, extents := s.extentCount, epoch := s.oc.emap,
    claim := ((s.oc.claimOf p).map (·.id)).getD 0, handover := (s.plu.get p).handover,
    sets := s.tc.intents.map IntentSet.summary, imageFault := s.ic.imageFault }

/-- R24, R30: the fields of a STATE QUERY answer that serves nothing (log 14). -/
def State.blankView (s : State) : StateView :=
  { bridge := .starting, orphan := false, own := .offline, cause := .none, peer := .offline, ownStage := .closed,
    peerStage := .closed, identity := 0, drive := .absent, depth := 0, block := 0, visible := 0, shift := 0, extents := 0,
    epoch := s.oc.emap, claim := 0, handover := false, sets := [], imageFault := false }

/-- R33: STATE QUERY, answered in every bridge state and every port state. -/
def takeStateQuery (p : Port) (h : Header) (s : State) : State :=
  byLength p h 6 (answer p h.ref noFlags .invalid (.stateQuery s.blankView))
    (answer p h.ref noFlags .done (.stateQuery (s.view p))) s

/-! ### A message from the stream -/

/-- R23: the header of a message. -/
def headerOf (m : List Byte) : Header := ⟨byteAt m 1, wordAt m 2, wordAt m 4⟩

/-- R24: a whole message goes to the block that serves its kind, after the internal steps that are due (log 2). -/
def deliver (p : Port) (m : List Byte) (s : State) : State :=
  let s := settle s
  let h := headerOf m
  let w (off : Nat) : Word := wordAt m off
  let epoch : Epoch := BitVec.ofNat 32 (fieldAt m 6 4)
  let lba : BitVec 48 := BitVec.ofNat 48 (fieldAt m 10 6)
  let kind := byteAt m 0
  if kind = 0x01#8 then takeRead p h epoch lba (w 16) s
  else if kind = 0x02#8 then takeWrite p h epoch lba (w 16) s
  else if kind = 0x03#8 then takeFlush p h epoch s
  else if kind = 0x04#8 then takeWriteData p h epoch (m.drop 10) s
  else if kind = 0x10#8 then takeEnrol p h epoch s
  else if kind = 0x11#8 then takePark p h s
  else if kind = 0x12#8 then takeClaim p h (w 6) (w 8) s
  else if kind = 0x13#8 then takeYield p h (byteAt m 6) s
  else if kind = 0x14#8 then takeKeep p h (byteAt m 6) s
  else if kind = 0x15#8 then takeDisclaim p h (w 6) (w 8) s
  else if kind = 0x16#8 then takeSetPolicy p h (w 6) (w 8) (byteAt m 10) s
  else if kind = 0x17#8 then takeTakeover p h (byteAt m 6) s
  else if kind = 0x18#8 then takeMapQuery p h (w 6) (w 8) s
  else if kind = 0x19#8 then takeIntentRead p h (w 6) s
  else if kind = 0x1A#8 then takeIntentClear p h (w 6) s
  else if kind = 0x1B#8 then takeStateQuery p h s
  else takeUndefined p h s

end Sys2Proof.Machine
end

