-- ==== Sys2Proof/Machine/Link.lean ====
section
/-! DEFINITION. The Port Link Unit (chapter 1): the search for alignment, the judging of frames, the message stream, settling, and the building of outbound frames. -/

namespace Sys2Proof.Machine

/-! ### Positions -/

/-- R1: the position after a position. -/
def nextPos (n : Nat) : Nat := (n + 1) % 8

/-- R4: the alignment phase of a marker against the local position. -/
def phaseOf (marker localPos : Nat) : Nat := (marker + 8 - localPos % 8) % 8

/-- R3: a candidate frame counts. -/
def frameCounts (fr : Frame) : Bool := fr.good && fr.marker < 8

/-! ### Alignment -/

/-- R4: the alignment-shift count goes up when a recorded phase differs from the new one. -/
def Plu.shifted (u : Plu) (phase : Nat) : BitVec 8 :=
  match u.phase with
  | some old => if old = phase then u.shiftCount else satSucc u.shiftCount
  | none => u.shiftCount

/-- R4: entry to ALIGNED at a frame with a marker. The run stands at 3 until the next search. -/
def Plu.align3 (marker : Nat) (u : Plu) : Plu :=
  { u with align := .aligned, run := 3, runMarker := marker, phase := some (phaseOf marker u.localPos),
           shiftCount := u.shifted (phaseOf marker u.localPos), expected := some (nextPos marker), history := [],
           cand := .none, cycleWords := none, rx := .seek, tLl := none }

/-- R3, R4: a frame that completes the run takes the link to ALIGNED, and from DOWN the supervisor is told. -/
def enterAligned (p : Port) (marker : Nat) (s : State) : State :=
  let wasDown := (s.plu.get p).align == .down
  let s := s.onPlu p (·.align3 marker)
  if wasDown then linkUpReport p s else s

/-- R3: a candidate frame in DOWN or LOSING. -/
def searchFrame (p : Port) (fr : Frame) (s : State) : State :=
  let u := s.plu.get p
  if !frameCounts fr then s.onPlu p fun u => { u with run := 0 }
  else if u.run = 0 || fr.marker != nextPos u.runMarker then s.onPlu p fun u => { u with run := 1, runMarker := fr.marker }
  else if u.run = 2 then enterAligned p fr.marker s
  else s.onPlu p fun u => { u with run := u.run + 1, runMarker := fr.marker }

/-- R9: the message begun and not finished, as a count. -/
def Rx.unfinished : Rx → Nat
  | .collect _ => 1
  | _ => 0

/-- R6, R9, R16: entry to LOSING. -/
def enterLosing (p : Port) (s : State) : State :=
  let s := damage p (s.plu.get p).rx.unfinished s
  s.onPlu p fun u =>
    { u with align := .losing, run := 0, tLl := some s.cfg.tLl, cand := .none, cycleWords := none, rx := .seek }

/-- R6: errors within the last frames of a window. -/
def lossWithin (errors window : Nat) (history : List Bool) : Bool :=
  errors ≤ ((history.drop (history.length - window)).filter id).length

/-- R6: the alignment loss criterion, over the history in arrival order. -/
def criterionMet (c : Criterion) (history : List Bool) : Bool :=
  match c with
  | .twoOfFour => lossWithin 2 4 history
  | .threeOfEight => lossWithin 3 8 history
  | .fiveOfSixteen => lossWithin 5 16 history

/-- R5: the history takes one frame more, at most 16. -/
def pushHistory (error : Bool) (history : List Bool) : List Bool :=
  let h := history ++ [error]
  h.drop (h.length - 16)

/-- R10: the check-error window count, at most 80,000 (log 27). -/
def countCheckError (u : Plu) : Plu := { u with checkErrors := min (u.checkErrors + 1) Config.checkErrorMax }

/-- R11: the count is above the threshold in force. -/
def Plu.excessive (u : Plu) : Bool := u.threshold < u.checkErrors

/-- R11: DEGRADED is set, and the event raised when it was clear. -/
def setDegraded (p : Port) (s : State) : State :=
  raiseIf (!(s.plu.get p).degraded) .linkDegraded (s.onPlu p fun u => { u with degraded := true })

/-- R10, R11: a bad frame judged in ALIGNED. -/
def badFrame (p : Port) (s : State) : State :=
  let s := s.onPlu p countCheckError
  if (s.plu.get p).excessive then setDegraded p s else s

/-- R12: the end of a check-error window; R21: the next one takes the threshold and the action configured. -/
def endWindow (p : Port) (s : State) : State :=
  s.onPlu p fun u =>
    { u with degraded := u.degraded && u.excessive, checkErrors := 0, threshold := s.cfg.threshold,
             action := s.cfg.action }

/-! ### The message stream -/

/-- What the PLU finds in the stream (R8, R24). -/
inductive Found where
  | whole (m : List Byte)
  | undefinedKind
  | badLength
  deriving DecidableEq, Repr

/-- What became of a message whose bytes are gathered: it ended and so many bytes are left, or the payload ended first, or
the stream is lost until the next named start. -/
inductive Gathered where
  | ended (found : Found) (rest : List Byte)
  | more (found : List Found) (rx : Rx)
  | lost
  deriving DecidableEq, Repr

/-- R8, R24: the bytes of a message so far with those that follow: the header is read when its 6 bytes are there. -/
def gather (m : List Byte) : Gathered :=
  if m.length < 6 then .more [] (.collect m)
  else
    let len := (wordAt m 2).toNat
    if !lengthInRange (wordAt m 2) then .lost
    else if !inboundKind (byteAt m 0) then
      if len ≤ m.length then .ended .undefinedKind (m.drop len) else .more [.undefinedKind] (.skip (len - m.length))
    else if len ≤ m.length then .ended (.whole (m.take len)) (m.drop len)
    else .more [] (.collect m)

/-- R8: the messages that begin in a frame, one after another from the first named start (log 7). -/
def parseBegun : Nat → List Byte → List Found × Rx
  | 0, _ => ([], .seek)
  | n + 1, bytes =>
    match gather bytes with
    | .lost => ([.badLength], .seek)
    | .more found rx => (found, rx)
    | .ended x rest => (x :: (parseBegun n rest).1, (parseBegun n rest).2)

/-- R8: what begins in a frame. -/
def parseNew (fr : Frame) : List Found × Rx :=
  match fr.firstStart with
  | some o => parseBegun fr.begun (fr.payload.drop o)
  | none => ([], .seek)

/-- R8: a delivered frame: first the rest of a message begun earlier, then the messages that begin in it. When the frame
completes a header whose length is out of range, a start that is named in it is passed over too (log 43). The named start
counts when the carried message ends in the frame, wherever it ends, and is ignored when it does not end there (log 53). -/
def parseFrame (rx : Rx) (fr : Frame) : List Found × Rx :=
  match rx with
  | .seek => parseNew fr
  | .skip left => if left ≤ fr.payload.length then parseNew fr else ([], .skip (left - fr.payload.length))
  | .collect m =>
    match gather (m ++ fr.payload) with
    | .lost => ([.badLength], .seek)
    | .more found rx => (found, rx)
    | .ended x _ => (x :: (parseNew fr).1, (parseNew fr).2)

/-- R8, R24: what is found is delivered or counted. -/
def takeFound (p : Port) (s : State) (x : Found) : State :=
  match x with
  | .whole m => deliver p m s
  | .undefinedKind => damage p 1 s
  | .badLength => damage p 1 s

/-- R8: the payload of a good frame with the expected marker. -/
def deliverPayload (p : Port) (fr : Frame) (s : State) : State :=
  let r := parseFrame (s.plu.get p).rx fr
  r.1.foldl (takeFound p) (s.onPlu p fun u => { u with rx := r.2 })

/-- R9: the payload of a dropped frame: every message it held some part of is counted once. A message whose start was
never taken is not counted (log 42). -/
def dropPayload (p : Port) (fr : Frame) (s : State) : State :=
  let s := damage p ((s.plu.get p).rx.unfinished + fr.begun) s
  s.onPlu p fun u => { u with rx := .seek, cycleWords := none }

/-! ### Settling -/

/-- R14: one field of a complete cycle: its settled value and its candidate afterwards. -/
def settleField {α : Type} [DecidableEq α] (need : Nat) (settled : α) (cand : Option (Candidate α)) (v : Option α) :
    α × Option (Candidate α) :=
  match v with
  | none => (settled, none)
  | some x =>
    if x = settled then (settled, none)
    else
      match cand with
      | some c =>
        if c.value = x then if need ≤ c.count + 1 then (x, none) else (settled, some ⟨x, c.count + 1⟩)
        else (settled, some ⟨x, 1⟩)
      | none => (settled, some ⟨x, 1⟩)

/-- The low byte of an overhead word (2.6). -/
def lowByte (w : Word) : Byte := w.setWidth 8

/-- The high byte of an overhead word (2.6). -/
def highByte (w : Word) : Byte := (w >>> 8).setWidth 8

/-- R14, R35: the four fields of a complete cycle's words are settled. -/
def settleCycle (need : Nat) (ws : List Word) (u : Plu) : Plu :=
  let w1 := ws.getD 1 0
  let i := settleField need u.settled.identity u.cand.identity (some (ws.getD 0 0))
  let h := settleField need u.settled.health u.cand.health (healthOfCode (lowByte w1))
  let q := settleField need u.settled.pulse u.cand.pulse (some (lowByte (ws.getD 2 0)))
  let v := settleField need u.settled.view u.cand.view (viewOfCode (highByte w1))
  { u with settled := ⟨i.1, h.1, q.1, v.1⟩, cand := ⟨i.2, h.2, q.2, v.2⟩ }

/-- R13: the words gathered in order from position 0, with the word of one more frame. -/
def gatherWord (pos : Nat) (w : Word) (ws : Option (List Word)) : Option (List Word) :=
  if pos = 0 then some [w]
  else
    match ws with
    | some l => if l.length = pos then some (l ++ [w]) else none
    | none => none

/-- R13, R14: the overhead word of a delivered frame; at the eighth of a complete cycle the fields are settled, and any
change is reported. -/
def takeWord (p : Port) (pos : Nat) (w : Word) (s : State) : State :=
  match gatherWord pos w (s.plu.get p).cycleWords with
  | none => s.onPlu p fun u => { u with cycleWords := none }
  | some ws =>
    if ws.length = 8 then
      let before := (s.plu.get p).settled
      let s := s.onPlu p fun u => { settleCycle s.cfg.settleCount ws u with cycleWords := none }
      let after := (s.plu.get p).settled
      if after = before then s else settledReport p before after s
    else s.onPlu p fun u => { u with cycleWords := some ws }

/-! ### A frame in ALIGNED -/

/-- R5: the frame has a marker error. -/
def markerError (u : Plu) (fr : Frame) : Bool := !(fr.marker < 8 && u.expected == some fr.marker)

/-- R5: the frame is judged and recorded, and the expected position moves on. -/
def judgeFrame (fr : Frame) (u : Plu) : Plu :=
  { u with history := pushHistory (markerError u fr) u.history, expected := u.expected.map nextPos }

/-- R6, R11: alignment is lost at this frame: by the criterion, or by RESEARCH at a bad frame above the threshold. -/
def alignmentLost (c : Criterion) (bad : Bool) (u : Plu) : Bool :=
  criterionMet c u.history || (bad && u.action == .research && u.excessive)

/-- R5 to R14: a frame received while ALIGNED. A good frame at which the criterion is met is still delivered, before LOSING
(log 50), and its overhead word is settled before a step that one of its messages made due (log 52). -/
def alignedFrameTaken (p : Port) (fr : Frame) (s : State) : State :=
  let dropped := !fr.good || markerError (s.plu.get p) fr
  let s := s.onPlu p (judgeFrame fr)
  let s := if fr.good then s else badFrame p s
  let s := if dropped then dropPayload p fr s else takeWord p fr.marker fr.word (deliverPayload p fr s)
  if alignmentLost s.cfg.criterion (!fr.good) (s.plu.get p) then enterLosing p s else s

/-- R7: T_ll expires in LOSING: the link goes DOWN, keeping the search run. -/
def loseLink (p : Port) (s : State) : State :=
  linkDownReport p (s.onPlu p fun u => { u with align := .down, tLl := none, linkLoss := satSucc u.linkLoss })

/-! ### Outbound frames -/

/-- R36: word 3: handover pending and the intent sets held. -/
def heldWord (handover : Bool) (sets : Nat) : Word := (if handover then 1 else 0) + BitVec.ofNat 16 (2 * sets)

/-- A word of two bytes. -/
def wordOf (low high : Byte) : Word := high.setWidth 16 <<< 8 ||| low.setWidth 16

/-- R18, R36: the status block of a port, from one view of the part. -/
def State.statusBlock (s : State) (p : Port) : List Word :=
  [wordOf s.ic.bridge.code s.dct.drive.code, wordOf (s.port p).code (s.port p.peer).code, s.oc.emap.setWidth 16,
   heldWord (s.plu.get p).handover s.tc.intents.length, 0, 0, 0, 0]

/-- The bytes at the head of the list that a turn names. -/
def Plu.headBytes (u : Plu) : Turn → List Byte
  | .data => (u.dataList.head?.map DataMsg.bytes).getD []
  | .queue => (u.outQueue.head?.map OutMsg.bytes).getD []

/-- R20, R27: a message leaves its list once its last byte has been placed. -/
def Plu.dropHead (u : Plu) : Turn → Plu
  | .data => { u with dataList := u.dataList.tail, tx := none }
  | .queue => { u with outQueue := u.outQueue.tail, tx := none }

/-- R27: which list gives the next message, and the turn flag afterwards. -/
def Plu.chooseTurn (u : Plu) : Option (Turn × Turn) :=
  match u.dataList.isEmpty, u.outQueue.isEmpty with
  | true, true => none
  | false, true => some (.data, u.turn)
  | true, false => some (.queue, u.turn)
  | false, false => some (u.turn, match u.turn with | .data => .queue | .queue => .data)

/-- R27: at a message boundary with room left, the next message begins. -/
def Plu.beginMessage (u : Plu) : Plu :=
  match u.tx, u.chooseTurn with
  | none, some (t, after) => { u with tx := some (t, 0), turn := after }
  | _, _ => u

/-- R20: the payload of one frame: whole messages one after another, the last one perhaps continued in the next frame. The
first argument bounds the messages, which take 6 bytes at least; `first` is where the first message to begin starts. -/
def fillFrame : Nat → Nat → Option Nat → List Byte → Plu → Plu × Option Nat × List Byte
  | 0, _, first, payload, u => (u, first, payload)
  | n + 1, room, first, payload, u =>
    if room = 0 then (u, first, payload)
    else
      let v := u.beginMessage
      match v.tx with
      | none => (v, first, payload)
      | some (t, placed) =>
        let start := if placed = 0 then (first <|> some payload.length) else first
        let left := (v.headBytes t).drop placed
        if left.length ≤ room then fillFrame n (room - left.length) start (payload ++ left) (v.dropHead t)
        else ({ v with tx := some (t, placed + room) }, start, payload ++ left.take room)

/-- R1: the 1,024 payload bytes of a frame sent: the bytes that carry messages, and then fill, each byte of it a free value
by its place in the payload (log 9). -/
def OutFrame.stream (f : OutFrame) : List Byte :=
  f.payload ++
    (List.range (Config.payloadBytes - f.payload.length)).map fun i => Config.fillByte (f.fillAt + f.payload.length + i)

/-- R2, R20, R27: the frame that a PLU sends at its local position, with a correct check code and with fill from a free
value on. -/
def Plu.sendFrame (fillAt : Nat) (u : Plu) : Plu :=
  let r := fillFrame Config.payloadBytes Config.payloadBytes none [] u
  { r.1 with
    lastFrame := some ⟨u.localPos, true, r.2.1, r.2.2, fillAt, u.txBlock.getD u.localPos 0⟩
    localPos := nextPos u.localPos }

/-- R27: the COMPLETIONs of READs whose last READ DATA has left the data list are handed to the queue. Several that are due
at one frame are handed over in the order in which the drive ended them (log 36). -/
def Plu.handReads (u : Plu) : Plu :=
  (u.readDone.filter fun r => !u.sending r.seq).foldl
    (fun v r => v.handOver (.completion r.tag r.status r.detail))
    { u with readDone := u.readDone.filter fun r => u.sending r.seq }

/-- R131: the pulse-stall count at the end of a cycle of the part's own clock. -/
def stallCount (p : Port) (s : State) : State :=
  if s.port p == .enrolled && s.linkUp p && (s.plu.get p).settled.health != .leaving then
    s.onSup p fun u => { u with stall := u.stall + 1, stallDue := s.cfg.stallLimit ≤ u.stall + 1 }
  else s

/-- R18: at local position 0 the status block is sampled, from the view that is given. -/
def sampleBlock (view : State) (p : Port) (u : Plu) : Plu :=
  if u.localPos = 0 then { u with txBlock := view.statusBlock p } else u

/-- R2: one port sends its frame; R131: after position 7 the cycle has ended. The COMPLETIONs that waited for READ DATA are
handed over when the whole frame has been built, so that none goes into the same frame (log 36). The free values of the
frame are used up (log 9). -/
def sendOn (view : State) (p : Port) (s : State) : State :=
  let ended := (s.plu.get p).localPos == 7
  let t := s.onPlu p fun u => ((sampleBlock view p u).sendFrame s.fillNext).handReads
  let t := { t with fillNext := s.fillNext + Config.payloadBytes }
  if ended then stallCount p t else t

/-- R2, R18: both ports send a frame; what they sample is one view of the part (log 8). -/
def sendFrames (s : State) : State := sendOn s .b (sendOn s .a s)

end Sys2Proof.Machine
end

