-- ==== Sys2Proof/Machine/LinkCommands.lean ====
section
/-! DEFINITION. The commands of the links: frames in, frames out, the link timers, and headers that spell no message. Every one lets the internal steps that are due go first (log 2). -/

namespace Sys2Proof.Machine

/-- R3, R4: a candidate frame. In ALIGNED the PLU looks for none, and nothing changes (log 5). -/
def execCandidateFrame (p : Port) (fr : Frame) (s : State) : Result :=
  let s := settle s
  .next (if (s.plu.get p).align = .aligned then s else searchFrame p fr s)

/-- R5 to R16: a frame in ALIGNED. In DOWN and LOSING no frame is judged, and nothing changes (log 5). -/
def execAlignedFrame (p : Port) (fr : Frame) (s : State) : Result :=
  let s := settle s
  .next (if (s.plu.get p).align = .aligned then alignedFrameTaken p fr s else s)

/-- R2, R18, R20, R27, R131: the part's frame clock. -/
def execFrameSend (s : State) : Result := .next (sendFrames (settle s))

/-- R7: T_ll expires in LOSING. A timer that does not run does not expire (log 5). -/
def execTLlExpiry (p : Port) (s : State) : Result :=
  let s := settle s
  .next (if (s.plu.get p).align = .losing && (s.plu.get p).tLl.isSome then loseLink p s else s)

/-- R12: a check-error window ends. -/
def execCheckErrorWindowEnd (p : Port) (s : State) : Result := .next (endWindow p (settle s))

/-- R24: a header whose length is out of range. -/
def execLengthOutOfRange (p : Port) (_h : Header) (s : State) : Result := .next (lengthLost p (settle s))

/-- R24: a header of undefined kind. -/
def execUndefinedKind (p : Port) (_kind : Byte) (h : Header) (s : State) : Result :=
  .next (takeUndefined p h (settle s))

end Sys2Proof.Machine
end

