-- ==== Sys2Proof/Machine/Management.lean ====
section
/-! DEFINITION. The Management Interface (chapter 10): request and answer records as bytes, the bodies of its answers, and what each request does when it is taken. -/

namespace Sys2Proof.Machine

/-! ### Records on the line -/

/-- R182: the bytes of an answer record: the sequence number, the kind code, the status, the flags, the length of the body
and the body. -/
def AnswerRecord.bytes (a : AnswerRecord) : List Byte :=
  [a.seq, a.kind, a.status.code, a.flags.byte] ++ leBytes 2 a.body.length ++ a.body

/-- R181: "A read transaction returns the answer record as it stood when the read began." -/
def State.readRecord (s : State) : List Byte := s.mi.answer.bytes

/-- R182: the request of a record of defined kind and right length, its fields from byte 2. -/
def requestOf (kind seq : Byte) (fields : List Byte) : Instr :=
  if kind = 0x01#8 then .readState seq
  else if kind = 0x02#8 then .readEvents seq
  else if kind = 0x03#8 then .readConfig seq
  else if kind = 0x04#8 then .writeConfig seq (configOfBytes fields)
  else if kind = 0x05#8 then .fencePort seq (byteAt fields 0)
  else if kind = 0x06#8 then .clearMap seq
  else .restart seq

/-- R181, R182: the command that a write transaction carries: the kind code in byte 0, the sequence number in byte 1, then
the fields; a record that is malformed is the command MALFORMED_RECORD. -/
def commandOfRecord (bytes : List Byte) : Instr :=
  match recordMalformed bytes, bytes with
  | false, kind :: seq :: fields => requestOf kind seq fields
  | _, _ => .malformedRecord bytes

/-! ### READ STATE -/

/-- R105, R183: the number of entries of an origin. -/
def Dct.originEntries (d : Dct) (o : Origin) : Nat := (d.entries.filter fun e => e.origin == o).length

/-- R183: the bridge fields of READ STATE. -/
def State.bridgeBytes (s : State) : List Byte :=
  [s.ic.bridge.code, boolCode s.orphan] ++ leBytes 1 s.oc.shift ++ leBytes 2 s.extentCount ++ leBytes 6 s.oc.visible ++
    leBytes 4 s.oc.emap.toNat ++ [s.dct.drive.code] ++ leBytes 1 s.dct.depth ++ leBytes 2 s.blockSize ++
    leBytes 1 (s.dct.originEntries (.server .a)) ++ leBytes 1 (s.dct.originEntries (.server .b)) ++
    leBytes 1 (s.dct.originEntries .bridge)

/-- R183: the image fields of READ STATE. -/
def State.imageBytes (s : State) : List Byte :=
  [s.ic.cycle.code] ++ leBytes 4 s.ic.generation.toNat ++ leBytes 1 s.ic.attempt ++ [boolCode s.ic.imageFault]

/-- R95, R183: the guarantee in force of a port, 0 before the first window (log 11). -/
def Au.guarantee (a : Au) (p : Port) : Nat :=
  match a.window with
  | some w => w.guar.get p
  | none => 0

/-- R183: the fields of one port of READ STATE. -/
def State.portBytes (s : State) (p : Port) : List Byte :=
  let u := s.plu.get p
  let v := s.sup.get p
  let r := s.tc.records.get p
  [boolCode (s.linkUp p), u.align.code, boolCode u.degraded] ++ leBytes 1 u.shiftCount.toNat ++
    leBytes 2 u.damaged.toNat ++ leBytes 2 u.linkLoss.toNat ++ leBytes 2 u.outDiscard.toNat ++
    [v.state.code, v.cause.code] ++ leBytes 2 v.identity.toNat ++ leBytes 2 (s.oc.ownerId.get p).toNat ++
    [r.stage.code, causeCode r.cause] ++ leBytes 2 r.setId.toNat ++ [destCode r.dest, parkStageCode (s.tc.parks.get p)] ++
    leBytes 1 (s.au.queue.get p).length ++ leBytes 1 (s.au.depth.get p) ++ leBytes 1 (s.au.granted.get p) ++
    leBytes 1 (s.au.guarantee p)

/-- R183: the arbiter fields of READ STATE. -/
def State.arbiterBytes (s : State) : List Byte :=
  leBytes 1 s.au.w ++ leBytes 1 ((s.au.window.map (·.length)).getD 0) ++ [portCode s.au.last]

/-- R183: the intent list fields of READ STATE. -/
def State.intentBytes (s : State) : List Byte :=
  let sets := s.tc.intents.map IntentSet.summary
  leBytes 1 sets.length ++ setSlot sets 0 ++ setSlot sets 1 ++ leBytes 1 s.tc.discards.toNat

/-- R182, R183: the body of a READ STATE answer. -/
def State.readStateBody (s : State) : List Byte :=
  s.bridgeBytes ++ s.imageBytes ++ s.portBytes .a ++ s.portBytes .b ++ s.arbiterBytes ++ s.intentBytes

/-! ### Requests -/

/-- R181: a request is taken when the MI is idle; else nothing changes. -/
def whenIdle (f : State → State) (s : State) : State := if s.miIdle then f s else s

/-- R183: READ STATE. -/
def takeReadState (seq : Byte) (s : State) : State :=
  whenIdle (fun s => finish seq 0x01 .done noMiFlags s.readStateBody s) s

/-- R189: READ EVENTS: the set is copied into the answer and emptied. -/
def takeReadEvents (seq : Byte) (s : State) : State :=
  whenIdle
    (fun s => (finish seq 0x02 .done noMiFlags (leBytes 2 s.mi.events.toNat) s).onMi fun m => { m with events := 0 }) s

/-- R183: READ CONFIG. -/
def takeReadConfig (seq : Byte) (s : State) : State :=
  whenIdle (fun s => finish seq 0x03 .done noMiFlags (configBytes (rawOfSettings s.cfg)) s) s

/-- R185: a change of k_req is held: the bridge has a geometry that is not free. -/
def State.geometryHeld (s : State) (kReq : Nat) : Bool :=
  kReq != s.cfg.kReq && s.extentCount != 0 && !s.geometryFree

/-- R185: a change of k_req is accepted by a bridge that has a geometry, and the table is rebuilt. -/
def State.rebuildDue (s : State) (kReq : Nat) : Bool := kReq != s.cfg.kReq && s.extentCount != 0 && s.geometryFree

/-- R81: a queue takes the new depth at once when it holds no more records. -/
def takeDepthIfDue (p : Port) (s : State) : State := if s.depthDue p then takeDepth p s else s

/-- R185: the working record is replaced by the record as judged. -/
def applySettings (x : Settings) (s : State) : State :=
  let new := if s.geometryHeld x.kReq then { x with kReq := s.cfg.kReq } else x
  (if s.rebuildDue x.kReq then rebuild x.kReq s else s).onMi fun m => { m with settings := new }

/-- R133, R185: the settings that act at once: the queue depths and the auto takeover setting. -/
def settingsAct (before : Settings) (s : State) : State :=
  let s := takeDepthIfDue .b (takeDepthIfDue .a s)
  if s.cfg.autoTakeover != before.autoTakeover then judgeBoth s else s

/-- R184, R185: a WRITE CONFIG that is accepted. It takes one ticket, also when it rebuilds the table (log 39). -/
def acceptConfig (seq : Byte) (r : RawConfig) (s : State) : State :=
  let x := settingsOfRaw r
  let held := s.geometryHeld x.kReq
  let s1 := applySettings x (beginRequest seq 0x04 s)
  settingsAct s.cfg (takeTicket (.config (rawClamped r) held) s1)

/-- R185: WRITE CONFIG. -/
def takeWriteConfig (seq : Byte) (r : RawConfig) (s : State) : State :=
  whenIdle
    (fun s =>
      if s.ic.bridge == .starting then finish seq 0x04 .notReady noMiFlags [] s else acceptConfig seq r s) s

/-- R182: the body of a FENCE PORT answer. -/
def fencePortBody (port : Byte) (setId : Word) : List Byte := port :: leBytes 2 setId.toNat

/-- R186: FENCE PORT of a port of the part. -/
def fenceByRequest (seq : Byte) (p : Port) (s : State) : State :=
  if s.ic.bridge == .starting then finish seq 0x05 .notReady noMiFlags (fencePortBody (portCode p) 0) s
  else if s.port p == .fenced then
    finish seq 0x05 (if (s.tc.records.get p).isOpen then .busy else .done) noMiFlags (fencePortBody (portCode p) 0) s
  else
    let s := fencePort p .admin s
    finish seq 0x05 .done noMiFlags (fencePortBody (portCode p) (s.setIdOf p)) s

/-- R186: FENCE PORT. A code that names no port is answered INVALID while the bridge is STARTING too (log 38). -/
def takeFencePort (seq : Byte) (port : Byte) (s : State) : State :=
  whenIdle
    (fun s =>
      match portOfCode port with
      | none => finish seq 0x05 .invalid noMiFlags (fencePortBody 0 0) s
      | some p => fenceByRequest seq p s) s

/-- R187: a port state that refuses CLEAR MAP. -/
def PortState.inService : PortState → Bool
  | .enrolled | .suspect | .held | .parking => true
  | _ => false

/-- R187: CLEAR MAP is refused. -/
def State.clearRefused (s : State) : Bool :=
  (s.port .a).inService || (s.port .b).inService || (s.tc.records.get .a).isOpen || (s.tc.records.get .b).isOpen ||
    !s.oc.claims.isEmpty

/-- R187: CLEAR MAP. -/
def takeClearMap (seq : Byte) (s : State) : State :=
  whenIdle
    (fun s =>
      if s.ic.bridge == .starting || s.extentCount == 0 then finish seq 0x06 .notReady noMiFlags (clearMapBody 0 0) s
      else if s.clearRefused then finish seq 0x06 .refused noMiFlags (clearMapBody 0 0) s
      else requestStep .clear none none (beginRequest seq 0x06 s)) s

/-- R182: the body of a final answer of a kind whose fields all carry 0 (log 24). -/
def zeroBody (kind : Byte) : List Byte :=
  if kind = 0x01#8 then List.replicate 96 0
  else if kind = 0x02#8 then List.replicate 2 0
  else if kind = 0x03#8 then List.replicate 30 0
  else if kind = 0x05#8 then List.replicate 3 0
  else if kind = 0x06#8 then List.replicate 6 0
  else []

/-- R181: a malformed record. -/
def takeMalformed (bytes : List Byte) (s : State) : State :=
  match bytes with
  | kind :: seq :: _ =>
    if recordMalformed bytes then whenIdle (finish seq kind .invalid noMiFlags (zeroBody kind)) s else s
  | _ => s

end Sys2Proof.Machine
end

