-- ==== Sys2Proof/Machine/ManagementCommands.lean ====
section
/-! DEFINITION. The commands of the management line and the full reset. All but the resets come after the internal steps that are due (log 2); a reset ends every activity at once (R175). -/

namespace Sys2Proof.Machine

/-- R175: power-on or the RESET input, with the levels of the straps as they are sampled. -/
def execFullReset (mad0 mad1 : Bool) (s : State) : Result := .next (fullReset mad0 mad1 s)

/-- R188: RESTART, in every bridge state and whether or not the MI is busy; the straps are sampled again. -/
def execRestart (_seq : Byte) (s : State) : Result := .next (fullReset s.mi.mad0 s.mi.mad1 s)

/-- R183: READ STATE. -/
def execReadState (seq : Byte) (s : State) : Result := .next (takeReadState seq (settle s))

/-- R189: READ EVENTS. -/
def execReadEvents (seq : Byte) (s : State) : Result := .next (takeReadEvents seq (settle s))

/-- R183: READ CONFIG. -/
def execReadConfig (seq : Byte) (s : State) : Result := .next (takeReadConfig seq (settle s))

/-- R184, R185: WRITE CONFIG. -/
def execWriteConfig (seq : Byte) (record : RawConfig) (s : State) : Result :=
  .next (takeWriteConfig seq record (settle s))

/-- R186: FENCE PORT. -/
def execFencePort (seq : Byte) (port : Byte) (s : State) : Result := .next (takeFencePort seq port (settle s))

/-- R187: CLEAR MAP. -/
def execClearMap (seq : Byte) (s : State) : Result := .next (takeClearMap seq (settle s))

/-- R181: a malformed record. -/
def execMalformedRecord (bytes : List Byte) (s : State) : Result := .next (takeMalformed bytes (settle s))

end Sys2Proof.Machine
end

