-- ==== Sys2Proof/Machine/MessageCommands.lean ====
section
/-! DEFINITION. The message commands: each acts as its message does when it is delivered (log 6), after the internal steps that are due (log 2). -/

namespace Sys2Proof.Machine

/-- R78: READ. -/
def execRead (p : Port) (h : Header) (ec : Epoch) (lba : BitVec 48) (n : Word) (s : State) : Result :=
  .next (takeRead p h ec lba n (settle s))

/-- R78: WRITE. -/
def execWrite (p : Port) (h : Header) (ec : Epoch) (lba : BitVec 48) (n : Word) (s : State) : Result :=
  .next (takeWrite p h ec lba n (settle s))

/-- R78: FLUSH. -/
def execFlush (p : Port) (h : Header) (ec : Epoch) (s : State) : Result := .next (takeFlush p h ec (settle s))

/-- R27: WRITE DATA. -/
def execWriteData (p : Port) (h : Header) (offset : BitVec 32) (bytes : List Byte) (s : State) : Result :=
  .next (takeWriteData p h offset bytes (settle s))

/-- R124 to R128: ENROL. -/
def execEnrol (p : Port) (h : Header) (epoch : Epoch) (s : State) : Result :=
  let s := settle s
  .next (takeEnrol p h epoch s)

/-- R141, R162: PARK. -/
def execPark (p : Port) (h : Header) (s : State) : Result :=
  let s := settle s
  .next (takePark p h s)

/-- R67 to R69: CLAIM. -/
def execClaim (p : Port) (h : Header) (f n : Word) (s : State) : Result :=
  let s := settle s
  .next (takeClaim p h f n s)

/-- R70: YIELD. -/
def execYieldClaim (p : Port) (h : Header) (id : Byte) (s : State) : Result := .next (takeYield p h id (settle s))

/-- R71: KEEP. -/
def execKeepClaim (p : Port) (h : Header) (id : Byte) (s : State) : Result := .next (takeKeep p h id (settle s))

/-- R76: DISCLAIM. -/
def execDisclaim (p : Port) (h : Header) (f n : Word) (s : State) : Result :=
  let s := settle s
  .next (takeDisclaim p h f n s)

/-- R77: SET POLICY. -/
def execSetPolicy (p : Port) (h : Header) (f n : Word) (policy : Byte) (s : State) : Result :=
  let s := settle s
  .next (takeSetPolicy p h f n policy s)

/-- R136: TAKEOVER. -/
def execTakeover (p : Port) (h : Header) (target : Byte) (s : State) : Result :=
  .next (takeTakeover p h target (settle s))

/-- R34: MAP QUERY. -/
def execMapQuery (p : Port) (h : Header) (f n : Word) (s : State) : Result :=
  let s := settle s
  .next (takeMapQuery p h f n s)

/-- R159: INTENT READ. -/
def execIntentRead (p : Port) (h : Header) (setId : Word) (s : State) : Result :=
  .next (takeIntentRead p h setId (settle s))

/-- R160: INTENT CLEAR. -/
def execIntentClear (p : Port) (h : Header) (setId : Word) (s : State) : Result :=
  .next (takeIntentClear p h setId (settle s))

/-- R33: STATE QUERY. -/
def execStateQuery (p : Port) (h : Header) (s : State) : Result :=
  let s := settle s
  .next (takeStateQuery p h s)

end Sys2Proof.Machine
end

