-- ==== Sys2Proof/Machine/TimerCommands.lean ====
section
/-! DEFINITION. The expiries of the supervisors' and controllers' timers. A timer that does not run does not expire, and nothing changes (log 4, log 5). Every one lets the internal steps that are due go first (log 2), but PARK_TIMER_EXPIRY, which comes before a port-clear report of its port (log 41). -/

namespace Sys2Proof.Machine

/-- R133: the confirmed flag is set, and the port is judged. -/
def confirmExpires (p : Port) (s : State) : State :=
  judge p (s.onSup p fun u => { u with confirm := none, confirmed := true })

/-- R133: the confirm timer expires. -/
def execConfirmTimerExpiry (p : Port) (s : State) : Result :=
  let s := settle s
  .next (if (s.sup.get p).confirm.isSome then confirmExpires p s else s)

/-- R142: the park timer expires in PARKING; the port is fenced. The report that ends the park's drain may come together with
the expiry, and either may be taken first: the expiry is taken before a report of its port that is due, and the report is
taken first by its own command, PORT_CLEAR, or by any other that comes before (R142, R163, log 41). -/
def execParkTimerExpiry (p : Port) (s : State) : Result :=
  let s := settleHolding p s
  .next (if (s.sup.get p).park.isSome && s.port p == .parking then fencePort p .parkTimeout s else s)

/-- R138: the conditions under which the expiry of the start window fences a port. -/
def State.absentOwner (s : State) (p : Port) : Bool :=
  (s.port p == .offline || s.port p == .linked) && s.oc.owns p && s.port p.peer == .enrolled && s.cfg.autoTakeover

/-- R138: one port is tested at the expiry of the start window. -/
def testAbsent (p : Port) (s : State) : State := if s.absentOwner p then fencePort p .absent s else s

/-- R138: the start window expires. -/
def execStartWindowExpiry (s : State) : Result :=
  let s := settle s
  .next (if s.startWindow.isSome then testAbsent .b (testAbsent .a { s with startWindow := none }) else s)

/-- R72: the deadline of a claim in ASKING expires. -/
def execClaimDeadlineExpiry (id : Byte) (s : State) : Result :=
  let s := settle s
  .next
    (match s.oc.findClaim id with
     | some c => if c.state == .asking && c.deadline.isSome then endClaim c .timedOut noFlags s else s
     | none => s)

/-- R148: the drain timer is stopped, and an abort is requested for every entry of the port. -/
def drainExpires (p : Port) (s : State) : State :=
  requestAborts p (s.onTc fun t => { t with records := t.records.set p { t.records.get p with drain := none } })

/-- R148: the drain timer of a takeover expires. -/
def execDrainTimerExpiry (p : Port) (s : State) : Result :=
  let s := settle s
  .next (if (s.tc.records.get p).drain.isSome then drainExpires p s else s)

end Sys2Proof.Machine
end

