-- ==== Sys2Proof/Machine/Dispatch.lean ====
section
/-! DEFINITION. exec: one arm for each command, each one call of its meaning. -/

namespace Sys2Proof.Machine

def exec (i : Instr) (s : State) : Host.Outcome State Fault Refusal :=
  match i with
  | .fullReset mad0 mad1 => Sys2Proof.Machine.execFullReset mad0 mad1 s
  | .restart seq => Sys2Proof.Machine.execRestart seq s
  | .candidateFrame p fr => Sys2Proof.Machine.execCandidateFrame p fr s
  | .alignedFrame p fr => Sys2Proof.Machine.execAlignedFrame p fr s
  | .frameSend => Sys2Proof.Machine.execFrameSend s
  | .tLlExpiry p => Sys2Proof.Machine.execTLlExpiry p s
  | .checkErrorWindowEnd p => Sys2Proof.Machine.execCheckErrorWindowEnd p s
  | .pulseStallLimit p => Sys2Proof.Machine.execPulseStallLimit p s
  | .lengthOutOfRange p h => Sys2Proof.Machine.execLengthOutOfRange p h s
  | .undefinedKind p kind h => Sys2Proof.Machine.execUndefinedKind p kind h s
  | .read p h ec lba n => Sys2Proof.Machine.execRead p h ec lba n s
  | .write p h ec lba n => Sys2Proof.Machine.execWrite p h ec lba n s
  | .flush p h ec => Sys2Proof.Machine.execFlush p h ec s
  | .writeData p h offset bytes => Sys2Proof.Machine.execWriteData p h offset bytes s
  | .enrol p h epoch => Sys2Proof.Machine.execEnrol p h epoch s
  | .park p h => Sys2Proof.Machine.execPark p h s
  | .claim p h f n => Sys2Proof.Machine.execClaim p h f n s
  | .yieldClaim p h id => Sys2Proof.Machine.execYieldClaim p h id s
  | .keepClaim p h id => Sys2Proof.Machine.execKeepClaim p h id s
  | .disclaim p h f n => Sys2Proof.Machine.execDisclaim p h f n s
  | .setPolicy p h f n policy => Sys2Proof.Machine.execSetPolicy p h f n policy s
  | .takeover p h target => Sys2Proof.Machine.execTakeover p h target s
  | .mapQuery p h f n => Sys2Proof.Machine.execMapQuery p h f n s
  | .intentRead p h setId => Sys2Proof.Machine.execIntentRead p h setId s
  | .intentClear p h setId => Sys2Proof.Machine.execIntentClear p h setId s
  | .stateQuery p h => Sys2Proof.Machine.execStateQuery p h s
  | .readState seq => Sys2Proof.Machine.execReadState seq s
  | .readEvents seq => Sys2Proof.Machine.execReadEvents seq s
  | .readConfig seq => Sys2Proof.Machine.execReadConfig seq s
  | .writeConfig seq record => Sys2Proof.Machine.execWriteConfig seq record s
  | .fencePort seq port => Sys2Proof.Machine.execFencePort seq port s
  | .clearMap seq => Sys2Proof.Machine.execClearMap seq s
  | .malformedRecord bytes => Sys2Proof.Machine.execMalformedRecord bytes s
  | .dvPrsnLow => Sys2Proof.Machine.execDvPrsnLow s
  | .dvPrsnHigh => Sys2Proof.Machine.execDvPrsnHigh s
  | .attachAnswerTimeExpiry => Sys2Proof.Machine.execAttachAnswerTimeExpiry s
  | .attachRetryTimeExpiry => Sys2Proof.Machine.execAttachRetryTimeExpiry s
  | .identifyAnswer capacity block depth => Sys2Proof.Machine.execIdentifyAnswer capacity block depth s
  | .reattachIdentifyAnswer capacity block depth => Sys2Proof.Machine.execReattachIdentifyAnswer capacity block depth s
  | .reattachTimeExpiry => Sys2Proof.Machine.execReattachTimeExpiry s
  | .driveCompletion tag status detail => Sys2Proof.Machine.execDriveCompletion tag status detail s
  | .driveReadData tag offset bytes => Sys2Proof.Machine.execDriveReadData tag offset bytes s
  | .abortAnswer tag done => Sys2Proof.Machine.execAbortAnswer tag done s
  | .commandTimerExpiry tag => Sys2Proof.Machine.execCommandTimerExpiry tag s
  | .abortTimerExpiry tag => Sys2Proof.Machine.execAbortTimerExpiry tag s
  | .confirmTimerExpiry p => Sys2Proof.Machine.execConfirmTimerExpiry p s
  | .parkTimerExpiry p => Sys2Proof.Machine.execParkTimerExpiry p s
  | .startWindowExpiry => Sys2Proof.Machine.execStartWindowExpiry s
  | .claimDeadlineExpiry id => Sys2Proof.Machine.execClaimDeadlineExpiry id s
  | .drainTimerExpiry p => Sys2Proof.Machine.execDrainTimerExpiry p s
  | .arbiterDecision => Sys2Proof.Machine.execArbiterDecision s
  | .shareWindowEnd => Sys2Proof.Machine.execShareWindowEnd s
  | .queueDepthTaken p => Sys2Proof.Machine.execQueueDepthTaken p s
  | .bridgeCommandIssue => Sys2Proof.Machine.execBridgeCommandIssue s
  | .imageCycleBegin => Sys2Proof.Machine.execImageCycleBegin s
  | .quiesceMetCommit step => Sys2Proof.Machine.execQuiesceMetCommit step s
  | .waitingStepAdmitted => Sys2Proof.Machine.execWaitingStepAdmitted s
  | .ticketServed => Sys2Proof.Machine.execTicketServed s
  | .portClear p => Sys2Proof.Machine.execPortClear p s
  | .queueEmptyReport p => Sys2Proof.Machine.execQueueEmptyReport p s

end Sys2Proof.Machine
end

