-- ==== Sys2Proof/Safety.lean ====
section
/-! DEFINITION. What it means for a state of the part to be sound: the conditions that the rules promise of every state, as predicates that a step keeps. The statements about them are in Certificates/. -/

namespace Sys2Proof.Machine

/-- No internal step is due, so a command acts on the state as it stands (log 2). -/
def Quiet (s : State) : Prop := nextDue s = none

/-- R20: each outbound message queue holds at most 192 messages. -/
def QueuesBounded (s : State) : Prop := ∀ p : Port, (s.plu.get p).outQueue.length ≤ 192

/-- R156: at most two intent sets are held. -/
def IntentsBounded (s : State) : Prop := s.tc.intents.length ≤ 2

/-- Section 5.4: g_A + g_B = w. -/
def GrantsCounted (s : State) : Prop := s.au.granted.a + s.au.granted.b = s.au.w

/-- R80, R85, R86: each admission queue holds at most its depth, and none while the bridge is not in SERVICE. -/
def AdmissionBounded (s : State) : Prop :=
  ∀ p : Port, (s.au.queue.get p).length ≤ s.au.depth.get p ∧
    (s.ic.bridge ≠ .service → s.au.queue.get p = [])

/-- R99, R120, R180: the drive is LOST exactly while the bridge is HALTED, and no command is at a drive that is not
READY. -/
def LostIsHalted (s : State) : Prop :=
  (s.dct.drive = .lost ↔ s.ic.bridge = .halted) ∧ (s.dct.drive ≠ .ready → s.dct.entries = [])

/-- R103: at most one entry per drive tag, every tag below D, and with D at 2 or more the bridge tag for the part's own
commands alone; a drive that is READY has D at 1 or more. -/
def TagsSound (s : State) : Prop :=
  (s.dct.drive ≠ .ready → s.dct.entries = []) ∧ (s.dct.drive = .ready → 1 ≤ s.dct.depth) ∧
    (s.dct.entries.map (·.tag)).Nodup ∧ (∀ e ∈ s.dct.entries, e.tag < s.dct.depth) ∧
    (2 ≤ s.dct.depth → ∀ e ∈ s.dct.entries, (e.tag = s.dct.depth - 1 ↔ e.origin = .bridge))

/-- R54, R66, R75, R143, R162: while the bridge is STARTING the map epoch is 0, and no transfer step, claim, drain or park
is in progress. -/
def StartingClean (s : State) : Prop :=
  s.ic.bridge = .starting →
    s.oc.emap = 0 ∧ s.oc.steps = [] ∧ s.oc.claims = [] ∧
      ∀ p : Port, (s.tc.records.get p).stage ≠ .drain ∧ s.tc.parks.get p = none

/-- R46: the change epoch of every extent is at most the map epoch. -/
def EpochsBounded (s : State) : Prop := ∀ e ∈ s.oc.extents, e.epoch ≤ s.oc.emap

/-- R2, R18: both PLUs are at the same local position, 0 to 7. -/
def PositionsAgree (s : State) : Prop := s.plu.a.localPos = s.plu.b.localPos ∧ s.plu.a.localPos < 8

/-- Section 10.2: every setting is in its range and on its step, and the guarantees are within the window together. -/
def Settings.InRange (x : Settings) : Prop :=
  (8 ≤ x.kReq ∧ x.kReq ≤ 30) ∧ (8 ≤ x.window ∧ x.window ≤ 64) ∧ x.guar.a + x.guar.b ≤ x.window ∧
    (x.depth = 8 ∨ x.depth = 16) ∧ (1 ≤ x.threshold ∧ x.threshold ≤ 1000) ∧
    (8 ≤ x.tLl ∧ x.tLl ≤ 504 ∧ x.tLl % 8 = 0) ∧ (x.settleCount = 2 ∨ x.settleCount = 3) ∧
    (100 ≤ x.stallLimit ∧ x.stallLimit ≤ 65000) ∧ (100 ≤ x.tCf ∧ x.tCf ≤ 30000 ∧ x.tCf % 100 = 0) ∧
    (500 ≤ x.tDrn ∧ x.tDrn ≤ 30000) ∧ (1 ≤ x.tPk ∧ x.tPk ≤ 60) ∧ (1 ≤ x.tCmd ∧ x.tCmd ≤ 120) ∧
    (500 ≤ x.tAbt ∧ x.tAbt ≤ 10000) ∧ (100 ≤ x.tRel ∧ x.tRel ≤ 10000) ∧ (5 ≤ x.tSw ∧ x.tSw ≤ 600)

/-- R133, R134: what the judgement of a port's peer makes of a state. A peer that is HELD, or SUSPECT and confirmed, is
judged while this port is ENROLLED, by the view that this port's server has of it: it is HELD while it is SEEN, and is else
fenced, or SUSPECT without auto takeover. -/
def PeerJudged (p : Port) (s t : State) : Prop :=
  let judged := s.port p.peer = .held ∨ (s.port p.peer = .suspect ∧ (s.sup.get p.peer).confirmed = true)
  (s.port p ≠ .enrolled ∨ ¬judged → t = s) ∧
  (s.port p = .enrolled → judged →
    ((s.plu.get p).settled.view = .seen → t = setPort p.peer .held s) ∧
    ((s.plu.get p).settled.view ≠ .seen → s.cfg.autoTakeover = false → t = setPort p.peer .suspect s) ∧
    ((s.plu.get p).settled.view ≠ .seen → s.cfg.autoTakeover = true → t = fencePort p.peer .liveness s))

/-- R73: what the settlement of a claim in WAITING makes of a state, by the owners of the claim's extents: the holder is
asked again; or the claim ends EXHAUSTED, or moves its extents of owner NONE by a CLAIM step; or it is GRANTED. -/
def ClaimSettled (c : Claim) (s t : State) : Prop :=
  let es := (s.oc.extents.drop c.first).take c.count
  let closed : Oc :=
    { s.oc with claims := s.oc.claims.filter fun d => d.id ≠ c.id,
                extents := s.oc.extents.map fun e => if e.claim = some c.id then { e with claim := none } else e }
  ((∃ e ∈ es, e.owner = some c.claimant.peer) →
    t = { s with
      plu := s.plu.set c.claimant.peer ((s.plu.get c.claimant.peer).handOver
        (.releaseAsk c.id c.claimant c.first c.count s.cfg.tRel)),
      oc := { s.oc with claims := s.oc.claims.map fun d =>
        if d.id = c.id then { d with state := .asking, deadline := some s.cfg.tRel, step := none, owed := false }
        else d } }) ∧
  ((∀ e ∈ es, e.owner ≠ some c.claimant.peer) → (∃ e ∈ es, e.owner = none) →
    (s.oc.emap = BitVec.allOnes 32 →
      t = { s with
        plu := s.plu.set c.claimant ((s.plu.get c.claimant).handOver
          (.answer c.ref noFlags .exhausted (.claim c.id s.oc.emap))),
        oc := closed,
        mi := { s.mi with events := s.mi.events ||| 1024#16 } }) ∧
    (s.oc.emap ≠ BitVec.allOnes 32 → ∃ xs : List Nat, xs.Pairwise (· < ·) ∧
      (∀ x, x ∈ xs ↔ c.first ≤ x ∧ x < c.first + c.count ∧ ∃ e, s.oc.extents[x]? = some e ∧ e.owner = none) ∧
      t = { s with oc := { s.oc with
        claims := s.oc.claims.map (fun d =>
          if d.id = c.id then
            { d with state := .transferring, deadline := none, step := some s.oc.nextStep, owed := false }
          else d),
        extents := s.oc.extents.mapIdx (fun x e =>
          if x ∈ xs then { e with mark := some ⟨.claim, some c.claimant⟩ } else e),
        steps := s.oc.steps ++
          [⟨s.oc.nextStep, .claim, some (some c.claimant), xs, some c.claimant, none, .quiesce, none⟩],
        nextStep := s.oc.nextStep + 1 } })) ∧
  ((∀ e ∈ es, e.owner = some c.claimant) →
    t = { s with
      plu := s.plu.set c.claimant ((s.plu.get c.claimant).handOver
        (.answer c.ref noFlags .granted (.claim c.id s.oc.emap))),
      oc := closed })

/-- A command that is a full reset (R175). -/
def isReset : Instr → Bool
  | .fullReset _ _ => true
  | .restart _ => true
  | _ => false

end Sys2Proof.Machine
end

