-- ==== Sys2Proof/Certificates/Slice0/Obligations.lean ====
section
/-! DEFINITION. The statements for the provers. Each is about a state in which no internal step is due (Quiet), which is the state that the manual's rules speak of: a step that is due is done first (log 2). -/

section Statements
open Sys2Proof Sys2Proof.Machine

/-! ### The machine as a whole -/

/-- The step runs the command at the front of the queue on the state with the queue's rest, and idles on an empty queue
(the model's own interface, log 1). -/
def Obligations.StepRunsFrontCommand : Prop :=
  ∀ s : State,
    (s.pending = [] → step s = .next s) ∧
      ∀ (c : Instr) (rest : List Instr), s.pending = c :: rest → step s = exec c { s with pending := rest }

/-- Every command of the table completes in every state, and none touches the queue of commands. -/
def Obligations.EveryCommandCompletes : Prop :=
  ∀ (c : Instr) (s : State), ∃ t : State, exec c s = .next t ∧ t.pending = s.pending

/-- R175 and the reset tables of the blocks: a full reset leaves every block at the values stated there, whatever came
before, and starts an attach attempt when a drive is seated; RESTART does the same with the straps as they are. The queue
of commands is the world's and stays (log 29), and so does the model's count of free values (log 9). -/
def Obligations.FullResetSetsEveryBlock : Prop :=
  ∀ (s : State) (m0 m1 : Bool),
    (∃ t : State, exec (.fullReset m0 m1) s = .next t ∧ t.pending = s.pending ∧ t.fillNext = s.fillNext ∧
      (∀ p : Port,
        ((t.plu.get p).align = .down ∧ (t.plu.get p).run = 0 ∧ (t.plu.get p).phase = none ∧
          (t.plu.get p).expected = none ∧ (t.plu.get p).history = [] ∧ (t.plu.get p).checkErrors = 0 ∧
          (t.plu.get p).degraded = false ∧ (t.plu.get p).settled = ⟨0, .starting, 0, .unknown⟩ ∧
          (t.plu.get p).cand = .none ∧ (t.plu.get p).localPos = 0) ∧
        ((t.plu.get p).outQueue = [] ∧ (t.plu.get p).dataList = [] ∧ (t.plu.get p).turn = .data ∧
          (t.plu.get p).handover = false ∧ (t.plu.get p).shiftCount = 0 ∧ (t.plu.get p).damaged = 0 ∧
          (t.plu.get p).linkLoss = 0 ∧ (t.plu.get p).outDiscard = 0) ∧
        ((t.sup.get p).state = .offline ∧ (t.sup.get p).cause = .none ∧ (t.sup.get p).stall = 0 ∧
          (t.sup.get p).confirm = none ∧ (t.sup.get p).confirmed = false ∧ (t.sup.get p).identity = 0 ∧
          (t.sup.get p).park = none ∧ (t.sup.get p).enrol = none) ∧
        (t.au.queue.get p = [] ∧ t.au.granted.get p = 0 ∧ t.oc.ownerId.get p = 0 ∧ t.dct.clearReq.get p = false ∧
          t.tc.records.get p = ⟨none, 0, .closed, none, none, 0, none⟩ ∧ t.tc.parks.get p = none)) ∧
      (t.oc.extents = [] ∧ t.oc.emap = 0 ∧ t.oc.steps = [] ∧ t.oc.claims = [] ∧ t.oc.lastClaimId = 0 ∧ t.oc.shift = 0 ∧
        t.oc.visible = 0 ∧ t.au.w = 0 ∧ t.au.last = .b ∧ t.startWindow = none) ∧
      (t.dct.entries = [] ∧ t.dct.issueCount = 0 ∧ t.dct.firstAttach = none ∧ t.dct.depth = 0 ∧
        t.tc.closing = [] ∧ t.tc.fenceCount = 0 ∧ t.tc.intents = [] ∧ t.tc.discards = 0) ∧
      (t.ic.bridge = .starting ∧ t.ic.cycle = .idle ∧ t.ic.generation = 0 ∧ t.ic.attempt = 0 ∧ t.ic.dirty = false ∧
        t.ic.contents = [] ∧ t.ic.tickets = [] ∧ t.ic.imageFault = false) ∧
      (t.mi.settings = Settings.default ∧ t.mi.events = 0 ∧ t.mi.answer = ⟨0, 0, .final .done, ⟨false, false, false⟩, []⟩ ∧
        t.mi.mad0 = m0 ∧ t.mi.mad1 = m1 ∧
        t.mi.address = 0x58#7 + (if m0 then 1 else 0) + (if m1 then 2 else 0)) ∧
      t.dct.prsnLow = s.dct.prsnLow ∧
      (s.dct.prsnLow = false → t.dct.drive = .absent ∧ t.dct.out = []) ∧
      (s.dct.prsnLow = true →
        t.dct.drive = .attaching ∧ t.dct.attachTimer = some 10 ∧ t.dct.out = [.reset, .identify])) ∧
    ∀ seq : Byte, exec (.restart seq) s = exec (.fullReset s.mi.mad0 s.mi.mad1) s

/-- The soundness conditions of Safety.lean hold right after reset. -/
def Obligations.SoundAtReset : Prop :=
  QueuesBounded State.reset ∧ IntentsBounded State.reset ∧ GrantsCounted State.reset ∧ AdmissionBounded State.reset ∧
    LostIsHalted State.reset ∧ TagsSound State.reset ∧ StartingClean State.reset ∧ EpochsBounded State.reset ∧
    PositionsAgree State.reset

/-! ### The links (chapters 1 and 2) -/

/-- R20: a message handed over joins the tail of the queue while it holds fewer than 192, and is discarded and counted
otherwise. The other port and every other block are untouched. R20, R27: which list gives the next message at a
message boundary and what the turn flag names afterwards; a message that fits the frame is placed whole and leaves its
list. That a message begins where the payload is free, here at its start, is the model's choice (log 9). -/
def Obligations.OutboundQueueAndTurn : Prop :=
  (∀ (p : Port) (m : OutMsg) (s : State),
     ((s.plu.get p).outQueue.length < 192 →
       handOver p m s = s.onPlu p fun u => { u with outQueue := u.outQueue ++ [m] }) ∧
     (192 ≤ (s.plu.get p).outQueue.length →
       handOver p m s = s.onPlu p fun u =>
         { u with outDiscard := if u.outDiscard = 65535#16 then 65535#16 else u.outDiscard + 1 })) ∧
  ((∀ u : Plu, u.tx = none →
     (u.dataList ≠ [] → u.outQueue ≠ [] → u.turn = .data →
       u.beginMessage = { u with tx := some (.data, 0), turn := .queue }) ∧
     (u.dataList ≠ [] → u.outQueue ≠ [] → u.turn = .queue →
       u.beginMessage = { u with tx := some (.queue, 0), turn := .data }) ∧
     (u.dataList ≠ [] → u.outQueue = [] → u.beginMessage = { u with tx := some (.data, 0) }) ∧
     (u.dataList = [] → u.outQueue ≠ [] → u.beginMessage = { u with tx := some (.queue, 0) }) ∧
     (u.dataList = [] → u.outQueue = [] → u.beginMessage = u)) ∧
   ∀ (s : State) (p : Port) (m : OutMsg), Quiet s → (s.plu.get p).tx = none → (s.plu.get p).dataList = [] →
     (s.plu.get p).outQueue = [m] → m.bytes.length ≤ 1024 → (s.plu.get p).readDone = [] →
     ∃ t : State, exec .frameSend s = .next t ∧ (t.plu.get p).outQueue = [] ∧ (t.plu.get p).tx = none ∧
       ∃ f : OutFrame, (t.plu.get p).lastFrame = some f ∧ f.payload = m.bytes ∧ f.firstStart = some 0)

/-- R3: how a candidate frame moves the search run in DOWN and in LOSING, short of the third frame. R4: the third
frame of a run takes the link to ALIGNED; from LOSING nothing else changes, and from DOWN the Port Supervisor gets the
link-UP report, here of a port that is not SUSPECT or HELD (R123). R130, R132: the link comes back from DOWN under a
port that is SUSPECT or HELD with cause LINK: with the settled health RUNNING the port returns to ENROLLED, and
otherwise it stays as it is. R133, R134: the peer is then judged when the port has returned to ENROLLED. -/
def Obligations.AlignmentSearch : Prop :=
  (∀ (p : Port) (fr : Frame) (s : State), Quiet s → (s.plu.get p).align ≠ .aligned →
     (¬(fr.good = true ∧ fr.marker < 8) →
       exec (.candidateFrame p fr) s = .next (s.onPlu p fun u => { u with run := 0 })) ∧
     (fr.good = true → fr.marker < 8 →
       ((s.plu.get p).run = 0 ∨ fr.marker ≠ ((s.plu.get p).runMarker + 1) % 8) →
       exec (.candidateFrame p fr) s = .next (s.onPlu p fun u => { u with run := 1, runMarker := fr.marker })) ∧
     (fr.good = true → fr.marker = ((s.plu.get p).runMarker + 1) % 8 → (s.plu.get p).run = 1 →
       exec (.candidateFrame p fr) s = .next (s.onPlu p fun u => { u with run := 2, runMarker := fr.marker }))) ∧
  (∀ (p : Port) (fr : Frame) (s : State), Quiet s → (s.plu.get p).align ≠ .aligned → fr.good = true →
     fr.marker = ((s.plu.get p).runMarker + 1) % 8 → (s.plu.get p).run = 2 →
     ∃ t : State, exec (.candidateFrame p fr) s = .next t ∧
       t.plu.get p =
         { s.plu.get p with
           align := .aligned, run := 3, runMarker := fr.marker,
           phase := some ((fr.marker + 8 - (s.plu.get p).localPos % 8) % 8),
           shiftCount :=
             (match (s.plu.get p).phase with
              | none => (s.plu.get p).shiftCount
              | some old =>
                if old = (fr.marker + 8 - (s.plu.get p).localPos % 8) % 8 then (s.plu.get p).shiftCount
                else satSucc (s.plu.get p).shiftCount),
           expected := some ((fr.marker + 1) % 8), history := [], cand := .none, cycleWords := none, rx := .seek,
           tLl := none } ∧
       ((s.plu.get p).align = .losing → t = s.onPlu p fun _ => t.plu.get p) ∧
       ((s.plu.get p).align = .down →
         (s.port p = .offline → s.ic.bridge ≠ .starting →
           t = setPort p .linked (s.onPlu p fun _ => t.plu.get p)) ∧
         ((s.port p = .offline ∧ s.ic.bridge = .starting) ∨ s.port p = .linked ∨ s.port p = .enrolled ∨
             s.port p = .parking ∨ s.port p = .parked ∨ s.port p = .fenced →
           t = s.onPlu p fun _ => t.plu.get p))) ∧
  (∀ (p : Port) (fr : Frame) (s : State), Quiet s → (s.plu.get p).align = .down → fr.good = true →
     fr.marker = ((s.plu.get p).runMarker + 1) % 8 → (s.plu.get p).run = 2 →
     (s.port p = .suspect ∨ s.port p = .held) → (s.sup.get p.peer).judged = false →
     ∃ t : State, exec (.candidateFrame p fr) s = .next t ∧ (t.plu.get p).align = .aligned ∧
       ((s.sup.get p).cause = .link → (s.plu.get p).settled.health = .running →
         t = (s.onPlu p fun _ => t.plu.get p).onSup p fun u =>
           { u with state := .enrolled, confirm := none, confirmed := false, cause := .none, stall := 0 }) ∧
       ((s.sup.get p).cause ≠ .link ∨ (s.plu.get p).settled.health ≠ .running →
         t = s.onPlu p fun _ => t.plu.get p)) ∧
  (∀ (p : Port) (fr : Frame) (s : State), Quiet s → (s.plu.get p).align = .down → fr.good = true →
     fr.marker = ((s.plu.get p).runMarker + 1) % 8 → (s.plu.get p).run = 2 →
     (s.port p = .suspect ∨ s.port p = .held) →
     ∃ t : State, exec (.candidateFrame p fr) s = .next t ∧ (t.plu.get p).align = .aligned ∧
       ((s.sup.get p).cause = .link → (s.plu.get p).settled.health = .running →
         PeerJudged p ((s.onPlu p fun _ => t.plu.get p).onSup p fun u =>
           { u with state := .enrolled, confirm := none, confirmed := false, cause := .none, stall := 0 }) t) ∧
       ((s.sup.get p).cause ≠ .link ∨ (s.plu.get p).settled.health ≠ .running →
         t = s.onPlu p fun _ => t.plu.get p))

/-- R5, R9, R10: a frame judged in ALIGNED that leaves the link there: one that carries no message and does not end a
cycle; one with a marker error; a bad one that keeps the count at or below the threshold. `err` is the marker error
and `h` the history with this frame. R6, R11: a marker error that meets the loss criterion, and a bad frame above the
threshold under RESEARCH, take the link to LOSING with T_ll started; above the threshold DEGRADED is set, and
LINK_DEGRADED raised when it was clear; under REPORT the link stays ALIGNED. A dropped frame counts as damaged the
message being gathered and those that begin in it. That it counts no message whose start was never taken is the model's
choice (log 42). -/
def Obligations.AlignedFrameJudged : Prop :=
  (∀ (p : Port) (fr : Frame) (s : State) (err : Bool) (h : List Bool), Quiet s → (s.plu.get p).align = .aligned →
     (err = true ↔ ¬(fr.marker < 8 ∧ (s.plu.get p).expected = some fr.marker)) →
     h = ((s.plu.get p).history ++ [err]).drop ((s.plu.get p).history.length + 1 - 16) →
     criterionMet s.cfg.criterion h = false →
     (fr.good = true → err = false → fr.firstStart = none → (s.plu.get p).rx = .seek → fr.marker ≠ 7 →
       exec (.alignedFrame p fr) s = .next (s.onPlu p fun u =>
         { u with history := h, expected := some ((fr.marker + 1) % 8),
                  cycleWords := gatherWord fr.marker fr.word u.cycleWords })) ∧
     (fr.good = true → err = true →
       exec (.alignedFrame p fr) s = .next (s.onPlu p fun u =>
         { u with history := h, expected := u.expected.map fun e => (e + 1) % 8,
                  damaged := satAdd u.damaged (u.rx.unfinished + fr.begun), rx := .seek, cycleWords := none })) ∧
     (fr.good = false → min ((s.plu.get p).checkErrors + 1) 80000 ≤ (s.plu.get p).threshold →
       exec (.alignedFrame p fr) s = .next (s.onPlu p fun u =>
         { u with history := h, expected := u.expected.map fun e => (e + 1) % 8,
                  checkErrors := min (u.checkErrors + 1) 80000,
                  damaged := satAdd u.damaged (u.rx.unfinished + fr.begun), rx := .seek, cycleWords := none }))) ∧
  (∀ (p : Port) (fr : Frame) (s : State) (err : Bool) (h : List Bool), Quiet s → (s.plu.get p).align = .aligned →
     (err = true ↔ ¬(fr.marker < 8 ∧ (s.plu.get p).expected = some fr.marker)) →
     h = ((s.plu.get p).history ++ [err]).drop ((s.plu.get p).history.length + 1 - 16) →
     (fr.good = true → err = true → criterionMet s.cfg.criterion h = true →
       exec (.alignedFrame p fr) s = .next (s.onPlu p fun u =>
         { u with align := .losing, run := 0, tLl := some s.cfg.tLl, cand := .none, history := h,
                  expected := u.expected.map fun e => (e + 1) % 8,
                  damaged := satAdd u.damaged (u.rx.unfinished + fr.begun), rx := .seek, cycleWords := none })) ∧
     (fr.good = false → (s.plu.get p).threshold < min ((s.plu.get p).checkErrors + 1) 80000 →
       ((s.plu.get p).action = .research →
         exec (.alignedFrame p fr) s = .next (raiseIf (!(s.plu.get p).degraded) .linkDegraded (s.onPlu p fun u =>
           { u with align := .losing, run := 0, tLl := some s.cfg.tLl, cand := .none, history := h,
                    expected := u.expected.map fun e => (e + 1) % 8, checkErrors := min (u.checkErrors + 1) 80000,
                    degraded := true, damaged := satAdd u.damaged (u.rx.unfinished + fr.begun), rx := .seek,
                    cycleWords := none }))) ∧
       ((s.plu.get p).action = .report → criterionMet s.cfg.criterion h = false →
         exec (.alignedFrame p fr) s = .next (raiseIf (!(s.plu.get p).degraded) .linkDegraded (s.onPlu p fun u =>
           { u with history := h, expected := u.expected.map fun e => (e + 1) % 8,
                    checkErrors := min (u.checkErrors + 1) 80000, degraded := true,
                    damaged := satAdd u.damaged (u.rx.unfinished + fr.begun), rx := .seek, cycleWords := none })))))

/-- R8, R23, R24, R33: the bytes of a STATE QUERY in the payload of a good frame with the expected marker are
delivered and answered. R24: a length out of range loses the stream up to the next named start; an undefined kind is
passed over. Each counts one damaged message, and nothing is answered. R23, R24: the bytes of a message of each inbound
kind act as its command with the fields that they hold. R8: the whole messages that begin in a frame are handed on in
order; a message whose last bytes are missing waits, and is handed on with the first bytes of the next frame, before the
messages that begin there. How many begin in a frame is an operand (log 7). -/
def Obligations.StreamTaken : Prop :=
  (∀ (p : Port) (fr : Frame) (s : State) (flags : Byte) (ref : Word) (fill : List Byte), Quiet s →
     (s.plu.get p).align = .aligned → (s.plu.get p).rx = .seek → (s.plu.get p).expected = some fr.marker →
     fr.good = true → fr.marker < 7 → fr.firstStart = some 0 → fr.begun = 1 →
     fr.payload = [0x1B#8, flags, 6#8, 0#8, ref.setWidth 8, (ref >>> 8).setWidth 8] ++ fill →
     criterionMet s.cfg.criterion
       (((s.plu.get p).history ++ [false]).drop ((s.plu.get p).history.length + 1 - 16)) = false →
     ∃ t : State, exec (.alignedFrame p fr) s = .next t ∧
       (t.plu.get p).outQueue =
         ((s.plu.get p).handOver (.answer ref noFlags .done (.stateQuery (s.view p)))).outQueue ∧
       (t.plu.get p).expected = some (fr.marker + 1) ∧ (t.plu.get p).rx = .seek ∧
       (t.plu.get p).damaged = (s.plu.get p).damaged ∧ t = s.onPlu p fun _ => t.plu.get p) ∧
  (∀ (p : Port) (kind : Byte) (h : Header) (s : State), Quiet s →
     exec (.lengthOutOfRange p h) s = .next (s.onPlu p fun u => { u with damaged := satAdd u.damaged 1, rx := .seek }) ∧
     (6#16 ≤ h.length → h.length ≤ 4106#16 →
       exec (.undefinedKind p kind h) s = .next (s.onPlu p fun u => { u with damaged := satAdd u.damaged 1 })) ∧
     (satAdd (s.plu.get p).damaged 1 = satSucc (s.plu.get p).damaged)) ∧
  (∀ (p : Port) (kind flags code : Byte) (len ref f n : Word) (epoch : Epoch) (lba : BitVec 48) (body bytes : List Byte)
     (h : Header) (s : State) (c : Instr), h = ⟨flags, len, ref⟩ →
     (kind = 0x01#8 ∧ body = leBytes 4 epoch.toNat ++ leBytes 6 lba.toNat ++ leBytes 2 n.toNat ∧
         c = .read p h epoch lba n) ∨
       (kind = 0x02#8 ∧ body = leBytes 4 epoch.toNat ++ leBytes 6 lba.toNat ++ leBytes 2 n.toNat ∧
         c = .write p h epoch lba n) ∨
       (kind = 0x03#8 ∧ body = leBytes 4 epoch.toNat ∧ c = .flush p h epoch) ∨
       (kind = 0x04#8 ∧ body = leBytes 4 epoch.toNat ++ bytes ∧ c = .writeData p h epoch bytes) ∨
       (kind = 0x10#8 ∧ body = leBytes 4 epoch.toNat ∧ c = .enrol p h epoch) ∨
       (kind = 0x11#8 ∧ body = [] ∧ c = .park p h) ∨
       (kind = 0x12#8 ∧ body = leBytes 2 f.toNat ++ leBytes 2 n.toNat ∧ c = .claim p h f n) ∨
       (kind = 0x13#8 ∧ body = [code] ∧ c = .yieldClaim p h code) ∨
       (kind = 0x14#8 ∧ body = [code] ∧ c = .keepClaim p h code) ∨
       (kind = 0x15#8 ∧ body = leBytes 2 f.toNat ++ leBytes 2 n.toNat ∧ c = .disclaim p h f n) ∨
       (kind = 0x16#8 ∧ body = leBytes 2 f.toNat ++ leBytes 2 n.toNat ++ [code] ∧ c = .setPolicy p h f n code) ∨
       (kind = 0x17#8 ∧ body = [code] ∧ c = .takeover p h code) ∨
       (kind = 0x18#8 ∧ body = leBytes 2 f.toNat ++ leBytes 2 n.toNat ∧ c = .mapQuery p h f n) ∨
       (kind = 0x19#8 ∧ body = leBytes 2 f.toNat ∧ c = .intentRead p h f) ∨
       (kind = 0x1A#8 ∧ body = leBytes 2 f.toNat ∧ c = .intentClear p h f) ∨
       (kind = 0x1B#8 ∧ body = [] ∧ c = .stateQuery p h) →
     exec c s = .next (deliver p ([kind, flags] ++ leBytes 2 len.toNat ++ leBytes 2 ref.toNat ++ body) s)) ∧
  (∀ (p : Port) (fr : Frame) (s : State) (h : List Bool) (ms : List (List Byte)) (m part rest before fill : List Byte),
     Quiet s → (s.plu.get p).align = .aligned → (s.plu.get p).expected = some fr.marker → fr.marker < 7 →
     fr.good = true → h = ((s.plu.get p).history ++ [false]).drop ((s.plu.get p).history.length + 1 - 16) →
     criterionMet s.cfg.criterion h = false →
     (∀ y ∈ m :: ms, 6 ≤ y.length ∧ y.length ≤ 4106 ∧ fieldAt y 2 2 = y.length ∧ inboundKind (byteAt y 0) = true) →
     ((s.plu.get p).rx = .seek → fr.firstStart = some before.length → fr.begun = ms.length →
       fr.payload = before ++ ms.flatten ++ fill →
       exec (.alignedFrame p fr) s = .next (((ms.foldl (fun t y => deliver p y t) (s.onPlu p fun u =>
         { u with history := h, expected := some (fr.marker + 1) })).onPlu p fun u =>
         { u with cycleWords := gatherWord fr.marker fr.word u.cycleWords }))) ∧
     (m = part ++ rest → part ≠ [] → rest ≠ [] →
       ((s.plu.get p).rx = .seek → fr.firstStart = some before.length → fr.begun = 1 →
         fr.payload = before ++ part →
         exec (.alignedFrame p fr) s = .next (s.onPlu p fun u =>
           { u with history := h, expected := some (fr.marker + 1), rx := .collect part,
                    cycleWords := gatherWord fr.marker fr.word u.cycleWords })) ∧
       ((s.plu.get p).rx = .collect part → fr.begun = ms.length →
         (fr.firstStart = some rest.length ∨ (fr.firstStart = none ∧ ms = [])) →
         fr.payload = rest ++ ms.flatten ++ fill →
         exec (.alignedFrame p fr) s = .next ((((m :: ms).foldl (fun t y => deliver p y t) (s.onPlu p fun u =>
           { u with history := h, expected := some (fr.marker + 1), rx := .seek })).onPlu p fun u =>
           { u with cycleWords := gatherWord fr.marker fr.word u.cycleWords })))))

/-- R14, R15: one field of a complete cycle, with the settle count `need`. R13, R14, R35: the frame of position 7 that ends
a complete cycle, in ALIGNED and with no message: the four fields settle (`x` are the values afterwards, `cs` the
candidates), and a value that settles differently is reported. R135: the report fences the port with the first of the
causes IDENTITY, RESTART and SELF that it carries; that it then clears no cause of the port first is the model's choice
(log 56). R131, R132: else it sets the pulse-stall count to 0 for a new pulse or
for LEAVING, and the cause STALL clears at a new pulse, LINK at health RUNNING. R133, R134: the peer is judged when the
port comes back to ENROLLED (log 19) and when its own view changes: it is HELD while it is SEEN, and is else fenced, or
SUSPECT without auto takeover. -/
def Obligations.FieldSettles : Prop :=
  (∀ (α : Type) [DecidableEq α] (need : Nat) (settled x y : α) (c : Option (Candidate α)) (n : Nat),
     settleField need settled c none = (settled, none) ∧
     settleField need settled c (some settled) = (settled, none) ∧
     (x ≠ settled → need ≤ n + 1 → settleField need settled (some ⟨x, n⟩) (some x) = (x, none)) ∧
     (x ≠ settled → n + 1 < need → settleField need settled (some ⟨x, n⟩) (some x) = (settled, some ⟨x, n + 1⟩)) ∧
     (x ≠ settled → y ≠ x → settleField need settled (some ⟨y, n⟩) (some x) = (settled, some ⟨x, 1⟩)) ∧
     (x ≠ settled → settleField need settled none (some x) = (settled, some ⟨x, 1⟩))) ∧
  (∀ (p : Port) (fr : Frame) (s v : State) (h : List Bool) (w0 w1 w2 w3 w4 w5 w6 : Word) (old x : Settled)
     (cs : Candidates), Quiet s → (s.plu.get p).align = .aligned → (s.plu.get p).expected = some 7 → fr.marker = 7 →
     fr.good = true → fr.firstStart = none → (s.plu.get p).rx = .seek →
     (s.plu.get p).cycleWords = some [w0, w1, w2, w3, w4, w5, w6] →
     h = ((s.plu.get p).history ++ [false]).drop ((s.plu.get p).history.length + 1 - 16) →
     criterionMet s.cfg.criterion h = false → old = (s.plu.get p).settled →
     (x.identity, cs.identity) = settleField s.cfg.settleCount old.identity (s.plu.get p).cand.identity (some w0) →
     (x.health, cs.health) = settleField s.cfg.settleCount old.health (s.plu.get p).cand.health
       (healthOfCode (w1.setWidth 8)) →
     (x.view, cs.view) = settleField s.cfg.settleCount old.view (s.plu.get p).cand.view
       (viewOfCode ((w1 >>> 8).setWidth 8)) →
     (x.pulse, cs.pulse) = settleField s.cfg.settleCount old.pulse (s.plu.get p).cand.pulse (some (w2.setWidth 8)) →
     v = s.onPlu p (fun u =>
       { u with history := h, expected := some 0, cycleWords := none, settled := x, cand := cs }) →
     ∃ t : State, exec (.alignedFrame p fr) s = .next t ∧
       (x = old → t = v) ∧
       (∀ cause : FenceCause,
         s.port p = .enrolled ∨ s.port p = .suspect ∨ s.port p = .held ∨ s.port p = .parking →
         s.ic.bridge ≠ .starting →
         (cause = .identity ∧ x.identity ≠ old.identity ∧ x.identity ≠ (s.sup.get p).identity) ∨
           ((x.identity = old.identity ∨ x.identity = (s.sup.get p).identity) ∧
             ((cause = .restart ∧ (old.health = .running ∨ old.health = .leaving) ∧ x.health = .starting) ∨
               (cause = .self ∧ old.health ≠ .faulted ∧ x.health = .faulted))) →
         t = fencePort p cause v) ∧
       (∀ (w : State) (clears : Bool),
         (s.port p ≠ .enrolled ∧ s.port p ≠ .suspect ∧ s.port p ≠ .held ∧ s.port p ≠ .parking) ∨
           ((x.identity = old.identity ∨ x.identity = (s.sup.get p).identity) ∧
             ¬((old.health = .running ∨ old.health = .leaving) ∧ x.health = .starting) ∧
             ¬(old.health ≠ .faulted ∧ x.health = .faulted)) →
         (clears = true ↔ (s.port p = .suspect ∨ s.port p = .held) ∧
           (((s.sup.get p).cause = .stall ∧ x.pulse ≠ old.pulse) ∨
             ((s.sup.get p).cause = .link ∧ x.health ≠ old.health ∧ x.health = .running))) →
         w = (if clears then v.onSup p fun u =>
               { u with state := .enrolled, confirm := none, confirmed := false, cause := .none, stall := 0 }
             else if x.pulse ≠ old.pulse ∨ (x.health ≠ old.health ∧ x.health = .leaving) then
               v.onSup p fun u => { u with stall := 0 }
             else v) →
         (w.port p ≠ .enrolled ∨ ¬(s.port p.peer = .held ∨ (s.port p.peer = .suspect ∧ (s.sup.get p.peer).confirmed = true)) ∨
             (clears = false ∧ x.view = old.view) → t = w) ∧
         (w.port p = .enrolled → s.port p.peer = .held ∨ (s.port p.peer = .suspect ∧ (s.sup.get p.peer).confirmed = true) →
           clears = true ∨ x.view ≠ old.view →
           (x.view = .seen → t = setPort p.peer .held w) ∧
           (x.view ≠ .seen → s.cfg.autoTakeover = false → t = setPort p.peer .suspect w) ∧
           (x.view ≠ .seen → s.cfg.autoTakeover = true → t = fencePort p.peer .liveness w))))

/-- R2, R18, R36: each port sends a frame at its local position, which moves on by one; the overhead word comes from the
status block, sampled at position 0 from the part as it stands; with nothing to send the payload carries no message. R1:
the check code is correct, and the frame has 1,024 payload bytes: those of its messages and then fill, of which nothing is
known (log 9). -/
def Obligations.FrameSent : Prop :=
  ∀ s : State, Quiet s → ∃ t : State, exec .frameSend s = .next t ∧
    t = { s with plu := t.plu, sup := t.sup, fillNext := t.fillNext } ∧
    ∀ p : Port,
      (t.plu.get p).localPos = ((s.plu.get p).localPos + 1) % 8 ∧
      (∃ f : OutFrame, (t.plu.get p).lastFrame = some f ∧ f.marker = (s.plu.get p).localPos ∧ f.good = true ∧
        f.payload.length ≤ 1024 ∧ f.stream.length = 1024 ∧ f.stream.take f.payload.length = f.payload ∧
        ((s.plu.get p).localPos ≠ 0 → f.word = (s.plu.get p).txBlock.getD (s.plu.get p).localPos 0) ∧
        ((s.plu.get p).localPos = 0 →
          f.word = wordOf s.ic.bridge.code s.dct.drive.code ∧
          (t.plu.get p).txBlock =
            [wordOf s.ic.bridge.code s.dct.drive.code, wordOf (s.port p).code (s.port p.peer).code,
             s.oc.emap.setWidth 16,
             (if (s.plu.get p).handover then 1 else 0) + BitVec.ofNat 16 (2 * s.tc.intents.length), 0, 0, 0, 0]) ∧
        ((s.plu.get p).outQueue = [] → (s.plu.get p).dataList = [] → (s.plu.get p).tx = none →
          f.payload = [] ∧ f.firstStart = none)) ∧
      (t.plu.get p).align = (s.plu.get p).align ∧ (t.plu.get p).settled = (s.plu.get p).settled ∧
      ((s.plu.get p).localPos ≠ 7 → t.sup.get p = s.sup.get p)

/-- R7, R123, R130, R131: T_ll expires in LOSING: the link goes DOWN and is counted, the search run is kept, and the
Port Supervisor gets the link-DOWN report. R131, R129: the pulse-stall count at the end of a cycle, and what reaching
the limit does. -/
def Obligations.SuspicionBegins : Prop :=
  (∀ (p : Port) (s : State), Quiet s → (s.plu.get p).align = .losing → (s.plu.get p).tLl.isSome = true →
     ∃ t : State, exec (.tLlExpiry p) s = .next t ∧
       t = { s with plu := t.plu, sup := t.sup, mi := t.mi } ∧
       t.plu = s.plu.set p { s.plu.get p with
         align := .down, tLl := none, linkLoss := satSucc (s.plu.get p).linkLoss } ∧
       (s.port p = .linked → t.mi = s.mi ∧
         t.sup = s.sup.set p { s.sup.get p with state := .offline, stall := 0 }) ∧
       (s.port p = .enrolled → t.mi = { s.mi with events := s.mi.events ||| 4#16 } ∧
         t.sup = s.sup.set p { s.sup.get p with
           state := .suspect, cause := .link, confirmed := false, confirm := some s.cfg.tCf, stall := 0 }) ∧
       (s.port p = .suspect ∨ s.port p = .held → t.mi = s.mi ∧
         t.sup = s.sup.set p { s.sup.get p with cause := .link, stall := 0 }) ∧
       (s.port p = .offline ∨ s.port p = .parking ∨ s.port p = .parked ∨ s.port p = .fenced → t.mi = s.mi ∧
         t.sup = s.sup.set p { s.sup.get p with stall := 0 })) ∧
  ((∀ (p : Port) (s : State), Quiet s → (s.plu.get p).localPos = 7 →
     ∃ t : State, exec .frameSend s = .next t ∧
       (s.port p = .enrolled → (s.plu.get p).align ≠ .down → (s.plu.get p).settled.health ≠ .leaving →
         t.sup.get p = { s.sup.get p with
           stall := (s.sup.get p).stall + 1, stallDue := s.cfg.stallLimit ≤ (s.sup.get p).stall + 1 }) ∧
       (s.port p ≠ .enrolled ∨ (s.plu.get p).align = .down ∨ (s.plu.get p).settled.health = .leaving →
         t.sup.get p = s.sup.get p)) ∧
   ∀ (p : Port) (s : State), (s.sup.get p).stallDue = true →
     (s.port p = .enrolled →
       exec (.pulseStallLimit p) s = .next (raise .portDown (s.onSup p fun u =>
         { u with state := .suspect, cause := .stall, confirmed := false, confirm := some s.cfg.tCf,
                  stallDue := false }))) ∧
     (s.port p ≠ .enrolled → exec (.pulseStallLimit p) s = .next (s.onSup p fun u => { u with stallDue := false })))

/-- R12: "If the count is at or below the threshold, DEGRADED is cleared", and otherwise it stays as R11 left it; the count
is 0 for the next window (R10), which takes the threshold and the action configured (R21); no event is raised or lost. -/
def Obligations.CheckErrorWindowEnds : Prop :=
  ∀ (p : Port) (s : State), Quiet s →
    ((s.plu.get p).checkErrors ≤ (s.plu.get p).threshold →
      exec (.checkErrorWindowEnd p) s = .next (s.onPlu p fun u =>
        { u with degraded := false, checkErrors := 0, threshold := s.cfg.threshold, action := s.cfg.action })) ∧
    ((s.plu.get p).threshold < (s.plu.get p).checkErrors →
      exec (.checkErrorWindowEnd p) s = .next (s.onPlu p fun u =>
        { u with checkErrors := 0, threshold := s.cfg.threshold, action := s.cfg.action }))

/-! ### Drive commands (chapters 2 and 5) -/

/-- R24, R25, R78: a drive command of wrong length or with a tag above 63 is answered INVALID, and one that fails the
arrival check is answered by the first test that fails; nothing else changes. R78, R79, R42: a READ, a WRITE or a
FLUSH that passes every test joins the tail of its port's queue with its span, and nothing else changes; its server
tag is then in use. -/
def Obligations.DriveCommandAdmitted : Prop :=
  (∀ (p : Port) (h : Header) (ec : Epoch) (lba : BitVec 48) (n : Word) (s : State), Quiet s →
     (6#16 ≤ h.length → h.length ≤ 4106#16 →
       (h.length ≠ 18#16 ∨ 63#16 < h.ref →
         exec (.read p h ec lba n) s = .next (complete p h.ref .invalid s) ∧
         exec (.write p h ec lba n) s = .next (complete p h.ref .invalid s)) ∧
       (h.length ≠ 10#16 ∨ 63#16 < h.ref →
         exec (.flush p h ec) s = .next (complete p h.ref .invalid s))) ∧
     (h.ref ≤ 63#16 →
       ∀ c : Instr,
         ((c = .read p h ec lba n ∨ c = .write p h ec lba n) ∧ h.length = 18#16) ∨ (c = .flush p h ec ∧ h.length = 10#16) →
         (s.ic.bridge ≠ .service → exec c s = .next (complete p h.ref .notReady s)) ∧
         (s.ic.bridge = .service →
           (s.port p = .fenced → exec c s = .next (complete p h.ref .fenced s)) ∧
           (s.port p ≠ .fenced → s.port p ≠ .enrolled → exec c s = .next (complete p h.ref .notEnrolled s)) ∧
           (s.port p = .enrolled →
             (c ≠ .flush p h ec → n = 0 → exec c s = .next (complete p h.ref .invalid s)) ∧
             (c ≠ .flush p h ec → n ≠ 0 → s.oc.visible < lba.toNat + n.toNat →
               exec c s = .next (complete p h.ref .range s)) ∧
             (c = .flush p h ec ∨ (n ≠ 0 ∧ lba.toNat + n.toNat ≤ s.oc.visible) →
               (s.tagInUse p h.ref = true → exec c s = .next (complete p h.ref .tagInUse s)) ∧
               (s.tagInUse p h.ref = false → s.au.depth.get p ≤ (s.au.queue.get p).length →
                 exec c s = .next (complete p h.ref .retry s))))))) ∧
  (∀ (p : Port) (h : Header) (ec : Epoch) (lba : BitVec 48) (n : Word) (s : State), Quiet s → s.ic.bridge = .service →
     s.port p = .enrolled → h.ref ≤ 63#16 → s.tagInUse p h.ref = false →
     (s.au.queue.get p).length < s.au.depth.get p →
     (h.length = 18#16 → n ≠ 0 → lba.toNat + n.toNat ≤ s.oc.visible →
       exec (.read p h ec lba n) s =
         .next { s with au := { s.au with queue := s.au.queue.set p (s.au.queue.get p ++
           [⟨h.ref, .read, some ⟨lba, n, lba.toNat / 2 ^ s.oc.shift, (lba.toNat + n.toNat - 1) / 2 ^ s.oc.shift⟩, ec⟩]) } } ∧
       exec (.write p h ec lba n) s =
         .next { s with au := { s.au with queue := s.au.queue.set p (s.au.queue.get p ++
           [⟨h.ref, .write, some ⟨lba, n, lba.toNat / 2 ^ s.oc.shift, (lba.toNat + n.toNat - 1) / 2 ^ s.oc.shift⟩,
             ec⟩]) } }) ∧
     (h.length = 10#16 →
       exec (.flush p h ec) s =
         .next { s with au := { s.au with queue := s.au.queue.set p (s.au.queue.get p ++ [⟨h.ref, .flush, none, ec⟩]) } }))

/-- R27, R107: WRITE DATA for an issued WRITE of the port at the expected offset goes to the drive, cut at N × B, and the
expected offset moves past its bytes; any other is discarded, and R24: so is one of wrong length. -/
def Obligations.WriteDataPassed : Prop :=
  (∀ (p : Port) (h : Header) (off : BitVec 32) (bytes : List Byte) (s : State), Quiet s → 11#16 ≤ h.length →
    h.length ≤ 4106#16 →
    (∀ (e : Entry) (r : Range), e ∈ s.dct.entries → e.origin = .server p → e.op = .write → e.serverTag = h.ref →
      e.range = some r → e.nextOffset = off.toNat →
      (∀ x ∈ s.dct.entries, x.origin = .server p → x.op = .write → x.serverTag = h.ref → x = e) →
      ∃ t : State, exec (.writeData p h off bytes) s = .next t ∧
        t = { s with dct := { s.dct with entries := t.dct.entries, out := t.dct.out } } ∧
        t.dct.entries = s.dct.entries.map (fun x =>
          if x.tag = e.tag then { x with nextOffset := x.nextOffset + bytes.length } else x) ∧
        (off.toNat + bytes.length ≤ r.count.toNat * s.blockSize → bytes ≠ [] →
          t.dct.out = s.dct.out ++ [.writeData e.tag off.toNat bytes]) ∧
        (off.toNat < r.count.toNat * s.blockSize → r.count.toNat * s.blockSize < off.toNat + bytes.length →
          t.dct.out = s.dct.out ++
            [.writeData e.tag off.toNat (bytes.take (r.count.toNat * s.blockSize - off.toNat))]) ∧
        (r.count.toNat * s.blockSize ≤ off.toNat → t.dct.out = s.dct.out)) ∧
    ((∀ x ∈ s.dct.entries, x.origin = .server p → x.op = .write → x.serverTag = h.ref → x.nextOffset ≠ off.toNat) →
      exec (.writeData p h off bytes) s = .next s)) ∧
  (∀ (p : Port) (h : Header) (off : BitVec 32) (bytes : List Byte) (s : State), Quiet s → 6#16 ≤ h.length →
     h.length < 11#16 → exec (.writeData p h off bytes) s = .next s)

/-- R82, R93: which heads are eligible, and the port that the arbiter selects in a share window whose counts and guarantees
are as the rules keep them; at most one port is under pressure. -/
def Obligations.ArbiterSelects : Prop :=
  ∀ (s : State) (x : ShareWindow), s.au.window = some x → s.au.granted.a + s.au.granted.b = s.au.w →
    x.guar.a + x.guar.b ≤ x.length → s.au.w < x.length →
    (∀ p : Port, s.eligible p = true ↔
      ((s.port p = .enrolled ∨ s.port p = .parking) ∧ s.dct.drive = .ready ∧ s.au.queue.get p ≠ [])) ∧
    (∀ p : Port, s.eligible p = true → s.eligible p.peer = false → s.selected = some p) ∧
    (s.eligible .a = false → s.eligible .b = false → s.selected = none) ∧
    (s.eligible .a = true → s.eligible .b = true →
      (∀ p : Port, s.au.granted.get p < x.guar.get p → x.length - s.au.w ≤ x.guar.get p - s.au.granted.get p →
        s.selected = some p) ∧
      ((∀ p : Port, ¬(s.au.granted.get p < x.guar.get p ∧
          x.length - s.au.w ≤ x.guar.get p - s.au.granted.get p)) → s.selected = some s.au.last.peer))

/-- R87 to R90, R94, R105, R106: a head that passes the issue check takes the lowest free server drive tag, enters the
table and goes to the drive, and the grant is counted; for a WRITE the in-flight counts of its span rise and a
TRANSFER READY is handed over. R88 to R91: the tests of the issue check in their order, each over the whole span, and
what a head that fails does: it is answered and leaves the queue, and nothing is counted. -/
def Obligations.HeadGranted : Prop :=
  (∀ (s : State) (p : Port) (tag : Nat) (q : QueueRecord) (rest : List QueueRecord), Quiet s →
     s.selected = some p → s.dct.freeTag = some tag → s.au.queue.get p = q :: rest → s.issueCheck p q = none →
     ((∀ e ∈ s.dct.entries, e.tag ≠ tag) ∧ (∀ k < tag, ∃ e ∈ s.dct.entries, e.tag = k) ∧
       (2 ≤ s.dct.depth → tag + 1 < s.dct.depth) ∧ (s.dct.depth = 1 → tag = 0 ∧ s.dct.bridgeWait = none)) ∧
     ∃ t : State, exec .arbiterDecision s = .next t ∧
       t.au = { s.au with queue := s.au.queue.set p rest, w := s.au.w + 1,
                          granted := s.au.granted.set p (s.au.granted.get p + 1), last := p } ∧
       t.dct = { s.dct with
         entries := s.dct.entries ++
           [⟨tag, .server p, q.tag, q.op, q.range, q.epoch, s.dct.issueCount, 0, some s.cfg.tCmd, none, none⟩],
         issueCount := s.dct.issueCount + 1,
         out := s.dct.out ++ [.command tag q.op (q.range.map fun r => (r.lba.toNat, r.count.toNat))] } ∧
       t = { s with plu := t.plu, oc := t.oc, au := t.au, dct := t.dct } ∧
       (q.op ≠ .write → t.plu = s.plu ∧ t.oc = s.oc) ∧
       (∀ r : Range, q.op = .write → q.range = some r →
         t.plu = s.plu.set p { s.plu.get p with
           dataList := (s.plu.get p).dataList ++
             [.transferReady q.tag (BitVec.ofNat 32 (r.count.toNat * s.blockSize))] } ∧
         t.oc = { s.oc with extents := s.oc.extents.mapIdx fun x e =>
           if r.f ≤ x ∧ x ≤ r.g then { e with inflight := e.inflight + 1 } else e })) ∧
  ((∀ (s : State) (p : Port) (q : QueueRecord) (r : Range) (es : List Extent), q.range = some r →
     es = (s.oc.extents.drop r.f).take (r.g + 1 - r.f) →
     (q.op = .write →
       (s.oc.emap < q.epoch → s.issueCheck p q = some .invalid) ∧
       (q.epoch ≤ s.oc.emap → (∃ e ∈ es, ∃ m, e.mark = some m ∧ m.dest = some p) → s.issueCheck p q = some .retry) ∧
       (q.epoch ≤ s.oc.emap → (∀ e ∈ es, ∀ m, e.mark = some m → m.dest ≠ some p) →
         (∃ e ∈ es, e.owner ≠ some p ∨ e.mark ≠ none) → s.issueCheck p q = some .notOwner) ∧
       ((∀ e ∈ es, e.owner = some p ∧ e.mark = none) → q.epoch ≤ s.oc.emap →
         ((∃ e ∈ es, q.epoch < e.epoch) → s.issueCheck p q = some .staleEpoch) ∧
         ((∀ e ∈ es, e.epoch ≤ q.epoch) → s.issueCheck p q = none))) ∧
     (q.op = .read →
       ((∃ e ∈ es, e.policy = .owner ∧ ∃ m, e.mark = some m ∧ m.dest = some p) → s.issueCheck p q = some .retry) ∧
       ((∀ e ∈ es, e.policy = .owner → ∀ m, e.mark = some m → m.dest ≠ some p) →
         (∃ e ∈ es, e.policy = .owner ∧ (e.owner ≠ some p ∨ e.mark ≠ none)) → s.issueCheck p q = some .notOwner) ∧
       ((∀ e ∈ es, e.policy = .owner → e.owner = some p ∧ e.mark = none) → s.issueCheck p q = none))) ∧
   (∀ (s : State) (p : Port) (q : QueueRecord), q.op = .flush → s.issueCheck p q = none) ∧
   ∀ (s : State) (p : Port) (tag : Nat) (q : QueueRecord) (rest : List QueueRecord) (st : CompStatus), Quiet s →
     s.selected = some p → s.dct.freeTag = some tag → s.au.queue.get p = q :: rest → s.issueCheck p q = some st →
     exec .arbiterDecision s =
       .next (complete p q.tag st { s with au := { s.au with queue := s.au.queue.set p rest } }))

/-- R94, R95: a share window that is over ends, and the next one starts with the configured length and the guarantees of
the ports that are ENROLLED or PARKING; the last-granted port is kept. R81: a queue that holds no more records than the
configured depth takes it. Outside these conditions neither does anything. -/
def Obligations.WindowAndDepthTaken : Prop :=
  ∀ (s : State) (p : Port),
    (∀ x : ShareWindow, s.au.window = some x → x.length ≤ s.au.w →
      exec .shareWindowEnd s = .next { s with au := { s.au with
        w := 0, granted := ⟨0, 0⟩,
        window := some ⟨s.cfg.window,
          ⟨if s.port .a = .enrolled ∨ s.port .a = .parking then s.cfg.guar.a else 0,
           if s.port .b = .enrolled ∨ s.port .b = .parking then s.cfg.guar.b else 0⟩⟩ } }) ∧
    (∀ x : ShareWindow, s.au.window = some x → s.au.w < x.length → exec .shareWindowEnd s = .next s) ∧
    (s.au.depth.get p ≠ 0 → (s.au.queue.get p).length ≤ s.cfg.depth →
      exec (.queueDepthTaken p) s = .next { s with au := { s.au with depth := s.au.depth.set p s.cfg.depth } }) ∧
    (s.cfg.depth < (s.au.queue.get p).length → exec (.queueDepthTaken p) s = .next s)

/-! ### ENROL and PARK (chapter 7) -/

/-- R29, R124: the tests of ENROL in their order; a refused ENROL changes nothing but its answer, which names the newest
intent set of the port (R125), and at saturation raises EPOCH_EXHAUSTED. -/
def Obligations.EnrolRefused : Prop :=
  ∀ (p : Port) (h : Header) (ep : Epoch) (s : State), Quiet s → h.length = 10#16 →
    (∀ x : IntentSet, (s.tc.intents.filter fun y => y.port = p).getLast? = some x →
      s.enrolBody p = .enrol s.oc.emap x.setId x.entries.length) ∧
    ((∀ x ∈ s.tc.intents, x.port ≠ p) → s.enrolBody p = .enrol s.oc.emap 0 0) ∧
    (s.ic.bridge = .starting → exec (.enrol p h ep) s = .next (answer p h.ref noFlags .notReady (s.enrolBody p) s)) ∧
    (s.ic.bridge ≠ .starting →
      (s.port p = .enrolled → exec (.enrol p h ep) s = .next (answer p h.ref noFlags .done (s.enrolBody p) s)) ∧
      (s.port p ≠ .enrolled → s.ic.bridge = .halted →
        exec (.enrol p h ep) s = .next (answer p h.ref noFlags .refused (s.enrolBody p) s)) ∧
      (s.ic.bridge ≠ .halted → s.port p = .suspect ∨ s.port p = .held ∨ s.port p = .parking →
        exec (.enrol p h ep) s = .next (answer p h.ref noFlags .notReady (s.enrolBody p) s)) ∧
      (s.ic.bridge ≠ .halted → s.port p = .offline ∨ s.port p = .linked ∨ s.port p = .parked ∨ s.port p = .fenced →
        ((s.sup.get p).enrol ≠ none →
          exec (.enrol p h ep) s = .next (answer p h.ref noFlags .retry (s.enrolBody p) s)) ∧
        (s.port p = .fenced → (s.tc.records.get p).stage = .fence ∨ (s.tc.records.get p).stage = .drain ∨
            (s.tc.records.get p).stage = .transfer →
          exec (.enrol p h ep) s = .next (answer p h.ref noFlags .retry (s.enrolBody p) s)) ∧
        ((s.sup.get p).enrol = none →
          (s.port p = .fenced → (s.tc.records.get p).stage = .persist ∨ (s.tc.records.get p).stage = .closed) →
          ((s.plu.get p).align = .down ∨ (s.plu.get p).settled.health ≠ .running ∨
              (s.plu.get p).settled.identity = 0 →
            exec (.enrol p h ep) s = .next (answer p h.ref noFlags .notReady (s.enrolBody p) s)) ∧
          ((s.plu.get p).align ≠ .down → (s.plu.get p).settled.health = .running →
            (s.plu.get p).settled.identity ≠ 0 → s.oc.owns p = true →
            s.oc.ownerId.get p ≠ (s.plu.get p).settled.identity → s.oc.emap = BitVec.allOnes 32 →
            exec (.enrol p h ep) s =
              .next (answer p h.ref noFlags .exhausted (s.enrolBody p) (raise .epochExhausted s))))))

/-- R125, R127: in SERVICE an ENROL that needs no release takes the port to ENROLLED, records the settled identity
here and as the owner identity, and is answered DONE, from FENCED with WAS_FENCED; the peer is then judged (R133, R134),
and nothing else happens. R126, R59, R60: an ENROL that needs a release keeps the port's state, records the enrolment in progress and asks for a RELEASE step over the port's
extents; the step is admitted when none of them, and none coming to the port, is marked. -/
def Obligations.EnrolAccepted : Prop :=
  (∀ (p : Port) (h : Header) (ep : Epoch) (s : State), Quiet s → h.length = 10#16 → s.ic.bridge = .service →
     s.port p = .offline ∨ s.port p = .linked ∨ s.port p = .parked ∨ s.port p = .fenced →
     (s.sup.get p).enrol = none →
     (s.port p = .fenced → (s.tc.records.get p).stage = .persist ∨ (s.tc.records.get p).stage = .closed) →
     (s.plu.get p).align ≠ .down → (s.plu.get p).settled.health = .running → (s.plu.get p).settled.identity ≠ 0 →
     s.oc.owns p = false ∨ s.oc.ownerId.get p = (s.plu.get p).settled.identity →
     ∃ t : State, exec (.enrol p h ep) s = .next t ∧
       t.sup.get p = { s.sup.get p with
         state := .enrolled, identity := (s.plu.get p).settled.identity, cause := .none, stall := 0 } ∧
       t.oc.ownerId.get p = (s.plu.get p).settled.identity ∧
       t.plu.get p = (s.plu.get p).handOver
         (.answer h.ref ⟨false, false, s.port p = .fenced, false⟩ .done (s.enrolBody p)) ∧
       ((s.sup.get p.peer).judged = false →
         t = { s with plu := s.plu.set p (t.plu.get p), sup := s.sup.set p (t.sup.get p),
                      oc := { s.oc with ownerId := s.oc.ownerId.set p (s.plu.get p).settled.identity } }) ∧
       PeerJudged p { s with plu := s.plu.set p (t.plu.get p), sup := s.sup.set p (t.sup.get p),
                             oc := { s.oc with ownerId := s.oc.ownerId.set p (s.plu.get p).settled.identity } } t) ∧
  (∀ (p : Port) (h : Header) (ep : Epoch) (s : State), Quiet s → h.length = 10#16 → s.ic.bridge = .service →
     s.port p = .offline ∨ s.port p = .linked ∨ s.port p = .parked ∨ s.port p = .fenced →
     (s.port p = .fenced → (s.tc.records.get p).stage = .persist ∨ (s.tc.records.get p).stage = .closed) →
     (s.sup.get p).enrol = none → (s.plu.get p).align ≠ .down → (s.plu.get p).settled.health = .running → (s.plu.get p).settled.identity ≠ 0 →
     s.oc.owns p = true → s.oc.ownerId.get p ≠ (s.plu.get p).settled.identity → s.oc.emap ≠ BitVec.allOnes 32 →
     (∀ u ∈ s.oc.steps, u.id ≠ s.oc.nextStep) → (∀ q : Port, (s.tc.records.get q).step ≠ some s.oc.nextStep) →
     ∃ t : State, exec (.enrol p h ep) s = .next t ∧
       t.sup = s.sup.set p { s.sup.get p with
         enrol := some ⟨h.ref, ep, s.port p, (s.plu.get p).settled.identity, false⟩ } ∧
       t = { s with sup := t.sup, oc := { s.oc with
         extents := t.oc.extents, steps := t.oc.steps, nextStep := s.oc.nextStep + 1 } } ∧
       ((∀ e ∈ s.oc.extents, (e.owner = some p → e.mark = none) ∧ (∀ m, e.mark = some m → m.dest ≠ some p)) →
         t.oc.extents = s.oc.extents.map (fun e =>
           if e.owner = some p then { e with mark := some ⟨.release, none⟩ } else e) ∧
         t.oc.steps = s.oc.steps ++
           [⟨s.oc.nextStep, .release, some none, s.oc.indexes fun e => e.owner == some p, some p, some h.ref, .quiesce,
             none⟩]) ∧
       ((∃ e ∈ s.oc.extents, ∃ m, e.mark = some m ∧ (e.owner = some p ∨ m.dest = some p)) →
         t.oc.extents = s.oc.extents ∧
         t.oc.steps = s.oc.steps ++
           [⟨s.oc.nextStep, .release, none, [], some p, some h.ref, .waiting, none⟩]))

/-- R128, R51, R170: in RECOVERY an accepted ENROL enters ENROLLED, raises E_map above a reported epoch at or above it,
and takes a ticket that its answer waits for. R133, R134: the peer is then judged; `v` is the state before that. -/
def Obligations.EnrolInRecovery : Prop :=
  ∀ (p : Port) (h : Header) (ep : Epoch) (s : State), Quiet s → h.length = 10#16 → s.ic.bridge = .recovery →
    s.port p = .offline ∨ s.port p = .linked ∨ s.port p = .parked ∨ s.port p = .fenced →
    (s.port p = .fenced → (s.tc.records.get p).stage = .persist ∨ (s.tc.records.get p).stage = .closed) →
    (s.sup.get p).enrol = none → (s.plu.get p).align ≠ .down → (s.plu.get p).settled.health = .running →
    (s.plu.get p).settled.identity ≠ 0 → s.oc.owns p = false →
    ∃ v t : State, exec (.enrol p h ep) s = .next t ∧ PeerJudged p v t ∧
      ((s.sup.get p.peer).judged = false → t = v) ∧
      v = { s with sup := v.sup, oc := v.oc, ic := v.ic, mi := v.mi } ∧
      v.sup = s.sup.set p { s.sup.get p with
        state := .enrolled, identity := (s.plu.get p).settled.identity, cause := .none, stall := 0,
        enrol := some ⟨h.ref, ep, s.port p, (s.plu.get p).settled.identity, true⟩ } ∧
      v.oc = { s.oc with
        ownerId := s.oc.ownerId.set p (s.plu.get p).settled.identity,
        emap := if s.oc.emap ≤ ep then satSucc ep else s.oc.emap } ∧
      (s.ic.cycle = .idle → v.ic = { s.ic with
        recoveryEnrolled := true, beginDue := true,
        tickets := s.ic.tickets ++ [⟨s.ic.generation + 1, .enrol p (!s.ic.recoveryEnrolled)⟩] }) ∧
      (s.ic.cycle ≠ .idle → v.ic = { s.ic with
        recoveryEnrolled := true, dirty := true,
        tickets := s.ic.tickets ++ [⟨s.ic.generation + 1, .enrol p (!s.ic.recoveryEnrolled)⟩] }) ∧
      v.mi = (if s.oc.emap ≤ ep ∧ 4294967294#32 ≤ ep then { s.mi with events := s.mi.events ||| 1024#16 } else s.mi)

/-- R141, R162, R73, R74: a PARK from an ENROLLED port goes to PARKING with the park timer, makes the park record at stage
QUEUE, sends a claim that the port holds from ASKING to WAITING, and closes the port's own claim CANCELLED; from any other
port it is answered NOT_ENROLLED. Claim ids are taken as different, as R69 makes them. That a claim already in WAITING on the
port is no longer owed a settlement, which the end of this park will make, is the model's reading (log 21). -/
def Obligations.ParkAccepted : Prop :=
  ∀ (p : Port) (h : Header) (s : State), Quiet s → h.length = 6#16 → s.ic.bridge ≠ .starting →
    (s.port p ≠ .enrolled →
      exec (.park p h) s = .next (answer p h.ref noFlags .notEnrolled (.park s.oc.emap) s)) ∧
    (s.port p = .enrolled →
      ∃ t : State, exec (.park p h) s = .next t ∧
        t = { s with plu := t.plu, sup := t.sup, oc := t.oc, tc := t.tc } ∧
        t.sup = s.sup.set p { s.sup.get p with state := .parking, park := some s.cfg.tPk, stall := 0 } ∧
        t.tc = { s.tc with parks := s.tc.parks.set p (some ⟨.queue, h.ref, none, false⟩) } ∧
        ((∀ c ∈ s.oc.claims, c.claimant ≠ p) →
          t.plu = s.plu ∧
          t.oc = { s.oc with claims := s.oc.claims.map fun c =>
            if c.state = .asking ∨ c.state = .waiting then { c with state := .waiting, deadline := none, owed := false }
            else c }) ∧
        (∀ c ∈ s.oc.claims, c.claimant = p → (∀ d ∈ s.oc.claims, d.claimant = p → d = c) →
          (∀ d ∈ s.oc.claims, d.id = c.id → d = c) →
          t.plu = s.plu.set p ((s.plu.get p).handOver
            (.answer c.ref noFlags .cancelled (.claim c.id s.oc.emap))) ∧
          t.oc = { s.oc with
            claims := (s.oc.claims.filter fun d => d.claimant ≠ p).map fun d =>
              if d.state = .asking ∨ d.state = .waiting then { d with state := .waiting, deadline := none, owed := false }
              else d,
            extents := s.oc.extents.map fun e => if e.claim = some c.id then { e with claim := none } else e }))

/-! ### Ownership requests (chapters 3 and 4) -/

/-- R29: a control request with a field outside its range is answered INVALID in every bridge state, and one with good
fields is answered NOT_READY while the bridge is STARTING; neither changes anything but a MAP QUERY's flag (R19). That a MAP
QUERY clears the handover pending flag also when it is answered INVALID, for a field or for its length, is the model's
reading (log 26). The target code that a TAKEOVER refused for its field carries is left open here (log 14). R24: a control
request of wrong length is answered INVALID in every bridge state, whatever its fields; the fields of these answers that
have no meaning are 0, as log 14 has it, and the order of the tests is that of log 13. -/
def Obligations.RequestFieldsTested : Prop :=
  ∀ (p : Port) (h : Header) (f n setId : Word) (id code : Byte) (s : State), Quiet s →
    (h.length = 10#16 → 1023#16 < f ∨ n = 0 ∨ 1024#16 < n →
      exec (.claim p h f n) s = .next (answer p h.ref noFlags .invalid (.claim 0 s.oc.emap) s) ∧
      exec (.disclaim p h f n) s = .next (answer p h.ref noFlags .invalid (.disclaim s.oc.emap) s)) ∧
    (h.length = 11#16 → 1023#16 < f ∨ n = 0 ∨ 1024#16 < n ∨ 1#8 < code →
      exec (.setPolicy p h f n code) s = .next (answer p h.ref noFlags .invalid (.setPolicy s.oc.emap) s)) ∧
    (h.length = 10#16 → 1023#16 < f ∨ n = 0 → ∃ t : State, exec (.mapQuery p h f n) s = .next t ∧
      (t.plu.get p).handover = false ∧
      t = answer p h.ref noFlags .invalid (.mapQuery ⟨s.oc.emap, 0, 0, 0, 0, []⟩)
        (s.onPlu p fun u => { u with handover := false })) ∧
    (h.length = 7#16 → code ≠ portCode p.peer →
      ∃ c : Byte, exec (.takeover p h code) s = .next (answer p h.ref noFlags .invalid (.takeover c 0) s)) ∧
    (h.length = 7#16 →
      exec (.yieldClaim p h 0) s = .next (answer p h.ref noFlags .invalid (.yieldClaim 0) s) ∧
      exec (.keepClaim p h 0) s = .next (answer p h.ref noFlags .invalid (.keepClaim 0) s)) ∧
    (s.ic.bridge = .starting →
      (h.length = 10#16 → f ≤ 1023#16 → 1#16 ≤ n → n ≤ 1024#16 →
        exec (.claim p h f n) s = .next (answer p h.ref noFlags .notReady (.claim 0 s.oc.emap) s) ∧
        exec (.disclaim p h f n) s = .next (answer p h.ref noFlags .notReady (.disclaim s.oc.emap) s)) ∧
      (h.length = 11#16 → f ≤ 1023#16 → 1#16 ≤ n → n ≤ 1024#16 → code ≤ 1#8 →
        exec (.setPolicy p h f n code) s = .next (answer p h.ref noFlags .notReady (.setPolicy s.oc.emap) s)) ∧
      (h.length = 7#16 → id ≠ 0 →
        exec (.yieldClaim p h id) s = .next (answer p h.ref noFlags .notReady (.yieldClaim id) s) ∧
        exec (.keepClaim p h id) s = .next (answer p h.ref noFlags .notReady (.keepClaim id) s)) ∧
      (h.length = 7#16 →
        exec (.takeover p h (portCode p.peer)) s =
          .next (answer p h.ref noFlags .notReady (.takeover (portCode p.peer) 0) s)) ∧
      (h.length = 6#16 → exec (.park p h) s = .next (answer p h.ref noFlags .notReady (.park s.oc.emap) s)) ∧
      (h.length = 8#16 → setId ≠ 0 →
        exec (.intentClear p h setId) s = .next (answer p h.ref noFlags .notReady (.intentClear setId) s))) ∧
    (∀ (len : Word) (c : Instr) (body : AnswerBody), 6#16 ≤ h.length → h.length ≤ 4106#16 → h.length ≠ len →
      (len = 10#16 ∧ (∃ ep, c = .enrol p h ep) ∧ body = .enrol s.oc.emap 0 0) ∨
        (len = 6#16 ∧ c = .park p h ∧ body = .park s.oc.emap) ∨
        (len = 10#16 ∧ c = .claim p h f n ∧ body = .claim 0 s.oc.emap) ∨
        (len = 7#16 ∧ c = .yieldClaim p h id ∧ body = .yieldClaim 0) ∨
        (len = 7#16 ∧ c = .keepClaim p h id ∧ body = .keepClaim 0) ∨
        (len = 10#16 ∧ c = .disclaim p h f n ∧ body = .disclaim s.oc.emap) ∨
        (len = 11#16 ∧ c = .setPolicy p h f n code ∧ body = .setPolicy s.oc.emap) ∨
        (len = 7#16 ∧ c = .takeover p h code ∧ body = .takeover 0 0) ∨
        (len = 8#16 ∧ c = .intentRead p h setId ∧ body = .intentRead 0 none []) ∨
        (len = 8#16 ∧ c = .intentClear p h setId ∧ body = .intentClear 0) ∨
        (len = 6#16 ∧ c = .stateQuery p h ∧ body = .stateQuery ⟨.starting, false, .offline, .none, .offline, .closed,
          .closed, 0, .absent, 0, 0, 0, 0, 0, s.oc.emap, 0, false, [], false⟩) →
      exec c s = .next (answer p h.ref noFlags .invalid body s)) ∧
    (6#16 ≤ h.length → h.length ≤ 4106#16 → h.length ≠ 10#16 →
      exec (.mapQuery p h f n) s = .next (answer p h.ref noFlags .invalid (.mapQuery ⟨s.oc.emap, 0, 0, 0, 0, []⟩)
        (s.onPlu p fun u => { u with handover := false })))

/-- R67: the tests of CLAIM in their order, for fields in range; a CLAIM that is refused changes nothing, and at
saturation raises EPOCH_EXHAUSTED. R68: no extent is the peer's: with nothing to move the CLAIM is granted at once
under claim id 0; otherwise a CLAIM step starts over the extents owned by NONE, and the requester's own extents are
left out. -/
def Obligations.ClaimServed : Prop :=
  (∀ (p : Port) (h : Header) (f n : Word) (s : State) (es : List Extent), Quiet s → h.length = 10#16 → f ≤ 1023#16 →
     1#16 ≤ n → n ≤ 1024#16 → es = (s.oc.extents.drop f.toNat).take n.toNat →
     (s.ic.bridge = .halted → exec (.claim p h f n) s = .next (answer p h.ref noFlags .refused (.claim 0 s.oc.emap) s)) ∧
     (s.ic.bridge = .recovery →
       exec (.claim p h f n) s = .next (answer p h.ref noFlags .notReady (.claim 0 s.oc.emap) s)) ∧
     (s.ic.bridge = .service →
       (s.port p ≠ .enrolled →
         exec (.claim p h f n) s = .next (answer p h.ref noFlags .notEnrolled (.claim 0 s.oc.emap) s)) ∧
       (s.port p = .enrolled → s.oc.extents.length < f.toNat + n.toNat →
         exec (.claim p h f n) s = .next (answer p h.ref noFlags .invalid (.claim 0 s.oc.emap) s)) ∧
       (s.port p = .enrolled → f.toNat + n.toNat ≤ s.oc.extents.length →
         ((∃ c ∈ s.oc.claims, c.claimant = p) →
           exec (.claim p h f n) s = .next (answer p h.ref noFlags .busy (.claim 0 s.oc.emap) s)) ∧
         ((∀ c ∈ s.oc.claims, c.claimant ≠ p) → (∃ e ∈ es, e.claim ≠ none ∨ e.mark ≠ none) →
           exec (.claim p h f n) s = .next (answer p h.ref noFlags .conflict (.claim 0 s.oc.emap) s)) ∧
         ((∀ c ∈ s.oc.claims, c.claimant ≠ p) → (∀ e ∈ es, e.claim = none ∧ e.mark = none) →
           (∃ e ∈ es, e.owner ≠ some p) → s.oc.emap = BitVec.allOnes 32 →
           exec (.claim p h f n) s =
             .next (answer p h.ref noFlags .exhausted (.claim 0 s.oc.emap) (raise .epochExhausted s)))))) ∧
  (∀ (p : Port) (h : Header) (f n : Word) (s : State), Quiet s → h.length = 10#16 → f ≤ 1023#16 → 1#16 ≤ n →
     n ≤ 1024#16 → s.ic.bridge = .service → s.port p = .enrolled → f.toNat + n.toNat ≤ s.oc.extents.length →
     (∀ c ∈ s.oc.claims, c.claimant ≠ p) →
     (∀ e ∈ (s.oc.extents.drop f.toNat).take n.toNat, e.claim = none ∧ e.mark = none ∧ e.owner ≠ some p.peer) →
     ((∀ e ∈ (s.oc.extents.drop f.toNat).take n.toNat, e.owner = some p) →
       exec (.claim p h f n) s = .next (answer p h.ref noFlags .granted (.claim 0 s.oc.emap) s)) ∧
     ((∃ e ∈ (s.oc.extents.drop f.toNat).take n.toNat, e.owner = none) → s.oc.emap ≠ BitVec.allOnes 32 →
       ∃ xs : List Nat, xs.Pairwise (· < ·) ∧
         (∀ x, x ∈ xs ↔ f.toNat ≤ x ∧ x < f.toNat + n.toNat ∧ ∃ e, s.oc.extents[x]? = some e ∧ e.owner = none) ∧
         exec (.claim p h f n) s = .next { s with oc := { s.oc with
           extents := s.oc.extents.mapIdx fun x e =>
             if f.toNat ≤ x ∧ x < f.toNat + n.toNat ∧ e.owner = none then { e with mark := some ⟨.claim, some p⟩ } else e,
           steps := s.oc.steps ++ [⟨s.oc.nextStep, .claim, some (some p), xs, some p, some h.ref, .quiesce, none⟩],
           nextStep := s.oc.nextStep + 1 } }))

/-- R69: some extent is the peer's: a claim is recorded under the next id, its extents carry the id, and the holder is
asked, or the claim waits when the holder is FENCED or PARKING. At most one other claim is open (section 4.2). -/
def Obligations.ClaimRecorded : Prop :=
  ∀ (p : Port) (h : Header) (f n : Word) (id : Byte) (s : State), Quiet s → h.length = 10#16 → f ≤ 1023#16 → 1#16 ≤ n →
    n ≤ 1024#16 → s.ic.bridge = .service → s.port p = .enrolled → f.toNat + n.toNat ≤ s.oc.extents.length →
    (∀ c ∈ s.oc.claims, c.claimant ≠ p) → s.oc.claims.length ≤ 1 → s.oc.emap ≠ BitVec.allOnes 32 →
    (∀ e ∈ (s.oc.extents.drop f.toNat).take n.toNat, e.claim = none ∧ e.mark = none) →
    (∃ e ∈ (s.oc.extents.drop f.toNat).take n.toNat, e.owner = some p.peer) →
    ((∀ c ∈ s.oc.claims, c.id ≠ succClaimId s.oc.lastClaimId) → id = succClaimId s.oc.lastClaimId) →
    ((∃ c ∈ s.oc.claims, c.id = succClaimId s.oc.lastClaimId) → id = succClaimId (succClaimId s.oc.lastClaimId)) →
    ∃ t : State, exec (.claim p h f n) s = .next t ∧
      t = { s with plu := t.plu, oc := { s.oc with
        claims := t.oc.claims, lastClaimId := id,
        extents := s.oc.extents.mapIdx fun x e =>
          if f.toNat ≤ x ∧ x < f.toNat + n.toNat then { e with claim := some id } else e } } ∧
      (s.port p.peer = .fenced ∨ s.port p.peer = .parking →
        t.plu = s.plu ∧
        t.oc.claims = s.oc.claims ++ [⟨id, p, f.toNat, n.toNat, h.ref, none, .waiting, none, false⟩]) ∧
      (s.port p.peer ≠ .fenced → s.port p.peer ≠ .parking →
        t.plu = s.plu.set p.peer ((s.plu.get p.peer).handOver (.releaseAsk id p f.toNat n.toNat s.cfg.tRel)) ∧
        t.oc.claims = s.oc.claims ++
          [⟨id, p, f.toNat, n.toNat, h.ref, some s.cfg.tRel, .asking, none, false⟩])

/-- R70: YIELD: the tests of the bridge state, LATE when it acts on no claim, RETRY at marks or at a whole-port step in
WAITING, EXHAUSTED at saturation, and else the CLAIM step over all n extents. Claim ids are different (R69). -/
def Obligations.YieldServed : Prop :=
  ∀ (p : Port) (h : Header) (id : Byte) (s : State), Quiet s → h.length = 7#16 → id ≠ 0 →
    (s.ic.bridge = .halted → exec (.yieldClaim p h id) s = .next (answer p h.ref noFlags .refused (.yieldClaim id) s)) ∧
    (s.ic.bridge = .recovery →
      exec (.yieldClaim p h id) s = .next (answer p h.ref noFlags .notReady (.yieldClaim id) s)) ∧
    (s.ic.bridge = .service →
      ((∀ c ∈ s.oc.claims, ¬(c.id = id ∧ c.state = .asking ∧ c.claimant = p.peer)) →
        exec (.yieldClaim p h id) s = .next (answer p h.ref noFlags .late (.yieldClaim id) s)) ∧
      (∀ c ∈ s.oc.claims, c.id = id → c.state = .asking → c.claimant = p.peer → (∀ d ∈ s.oc.claims, d.id = id → d = c) →
        ((∃ e ∈ (s.oc.extents.drop c.first).take c.count,
            e.mark ≠ none ∨ ∃ u ∈ s.oc.steps, u.stage = .waiting ∧ concernedIn u.kind u.port e = true) →
          exec (.yieldClaim p h id) s = .next (answer p h.ref noFlags .retry (.yieldClaim id) s)) ∧
        ((∀ e ∈ (s.oc.extents.drop c.first).take c.count,
            e.mark = none ∧ ∀ u ∈ s.oc.steps, u.stage = .waiting → concernedIn u.kind u.port e = false) →
          (s.oc.emap = BitVec.allOnes 32 → ∃ t : State, exec (.yieldClaim p h id) s = .next t ∧
            t = { s with plu := t.plu, oc := t.oc, mi := { s.mi with events := s.mi.events ||| 1024#16 } } ∧
            t.plu = (s.plu.set p.peer ((s.plu.get p.peer).handOver
                (.answer c.ref noFlags .exhausted (.claim id s.oc.emap)))).set p
              ((s.plu.get p).handOver (.answer h.ref noFlags .exhausted (.yieldClaim id))) ∧
            t.oc = { s.oc with
              claims := s.oc.claims.filter fun d => d.id ≠ id,
              extents := s.oc.extents.map fun e => if e.claim = some id then { e with claim := none } else e }) ∧
          (s.oc.emap ≠ BitVec.allOnes 32 → ∃ xs : List Nat, xs.Pairwise (· < ·) ∧
            (∀ x, x ∈ xs ↔ c.first ≤ x ∧ x < c.first + c.count ∧ x < s.oc.extents.length) ∧
            exec (.yieldClaim p h id) s = .next (answer p h.ref noFlags .done (.yieldClaim id) { s with oc := { s.oc with
              claims := s.oc.claims.map fun d =>
                if d.id = id then { d with state := .transferring, deadline := none, step := some s.oc.nextStep,
                                           owed := false } else d,
              extents := s.oc.extents.mapIdx fun x e =>
                if c.first ≤ x ∧ x < c.first + c.count then { e with mark := some ⟨.claim, some p.peer⟩ } else e,
              steps := s.oc.steps ++
                [⟨s.oc.nextStep, .claim, some (some p.peer), xs, some p.peer, none, .quiesce, none⟩],
              nextStep := s.oc.nextStep + 1 } })))))

/-- R29, R71: KEEP: id 0, in every bridge state, STARTING too (the order of log 13), each bridge state, LATE when it acts on
no claim, and else the claim closes, its claimant is answered DENIED and the KEEP DONE. Claim ids are different (R69). -/
def Obligations.KeepServed : Prop :=
  ∀ (p : Port) (h : Header) (id : Byte) (s : State), Quiet s → h.length = 7#16 →
    (id = 0 → exec (.keepClaim p h id) s = .next (answer p h.ref noFlags .invalid (.keepClaim id) s)) ∧
    (id ≠ 0 → s.ic.bridge = .starting →
      exec (.keepClaim p h id) s = .next (answer p h.ref noFlags .notReady (.keepClaim id) s)) ∧
    (id ≠ 0 → s.ic.bridge = .halted →
      exec (.keepClaim p h id) s = .next (answer p h.ref noFlags .refused (.keepClaim id) s)) ∧
    (id ≠ 0 → s.ic.bridge = .recovery →
      exec (.keepClaim p h id) s = .next (answer p h.ref noFlags .notReady (.keepClaim id) s)) ∧
    (id ≠ 0 → s.ic.bridge = .service →
      ((∀ c ∈ s.oc.claims, ¬(c.id = id ∧ c.state = .asking ∧ c.claimant = p.peer)) →
        exec (.keepClaim p h id) s = .next (answer p h.ref noFlags .late (.keepClaim id) s)) ∧
      (∀ c ∈ s.oc.claims, c.id = id → c.state = .asking → c.claimant = p.peer → (∀ d ∈ s.oc.claims, d.id = id → d = c) →
        exec (.keepClaim p h id) s = .next { s with
          plu := (s.plu.set p.peer ((s.plu.get p.peer).handOver
              (.answer c.ref noFlags .denied (.claim id s.oc.emap)))).set p
            ((s.plu.get p).handOver (.answer h.ref noFlags .done (.keepClaim id))),
          oc := { s.oc with
            claims := s.oc.claims.filter fun d => d.id ≠ id,
            extents := s.oc.extents.map fun e => if e.claim = some id then { e with claim := none } else e } }))

/-- R76, R77: the tests that DISCLAIM and SET POLICY share, in their order; the conflicts of each; and at saturation
DISCLAIM's. A request that is refused changes nothing. R76, R59: a DISCLAIM that passes starts a step over the n
extents with destination NONE, and marks them. R77, R170: a SET POLICY that passes sets the policy of the n extents at
once and takes a ticket, which names the generation after the present one and has a cycle begin, or the next cycle
follow the one in progress. -/
def Obligations.OwnerRequestServed : Prop :=
  (∀ (p : Port) (f n : Word) (h h' : Header) (code : Byte) (s : State) (es : List Extent), Quiet s → h.length = 10#16 →
     h'.length = 11#16 → f ≤ 1023#16 → 1#16 ≤ n → n ≤ 1024#16 → code ≤ 1#8 →
     es = (s.oc.extents.drop f.toNat).take n.toNat →
     (∀ r : AnsResult,
       ((s.ic.bridge = .halted ∧ r = .refused) ∨ (s.ic.bridge = .recovery ∧ r = .notReady) ∨
         (s.ic.bridge = .service ∧ s.port p ≠ .enrolled ∧ r = .notEnrolled) ∨
         (s.ic.bridge = .service ∧ s.port p = .enrolled ∧ s.oc.extents.length < f.toNat + n.toNat ∧ r = .invalid) ∨
         (s.ic.bridge = .service ∧ s.port p = .enrolled ∧ f.toNat + n.toNat ≤ s.oc.extents.length ∧
           (∃ e ∈ es, e.owner ≠ some p) ∧ r = .notOwner)) →
       exec (.disclaim p h f n) s = .next (answer p h.ref noFlags r (.disclaim s.oc.emap) s) ∧
       exec (.setPolicy p h' f n code) s = .next (answer p h'.ref noFlags r (.setPolicy s.oc.emap) s)) ∧
     (s.ic.bridge = .service → s.port p = .enrolled → f.toNat + n.toNat ≤ s.oc.extents.length →
       (∀ e ∈ es, e.owner = some p) →
       ((∃ e ∈ es, e.mark ≠ none ∨ e.claim ≠ none) →
         exec (.disclaim p h f n) s = .next (answer p h.ref noFlags .conflict (.disclaim s.oc.emap) s)) ∧
       ((∃ e ∈ es, e.mark ≠ none) →
         exec (.setPolicy p h' f n code) s = .next (answer p h'.ref noFlags .conflict (.setPolicy s.oc.emap) s)) ∧
       ((∀ e ∈ es, e.mark = none ∧ e.claim = none) → s.oc.emap = BitVec.allOnes 32 →
         exec (.disclaim p h f n) s =
           .next (answer p h.ref noFlags .exhausted (.disclaim s.oc.emap) (raise .epochExhausted s))))) ∧
  (∀ (p : Port) (f n : Word) (h : Header) (s : State), Quiet s → f ≤ 1023#16 → 1#16 ≤ n → n ≤ 1024#16 →
     s.ic.bridge = .service → s.port p = .enrolled → f.toNat + n.toNat ≤ s.oc.extents.length →
     (∀ e ∈ (s.oc.extents.drop f.toNat).take n.toNat, e.owner = some p ∧ e.mark = none) →
     (h.length = 10#16 → (∀ e ∈ (s.oc.extents.drop f.toNat).take n.toNat, e.claim = none) →
       s.oc.emap ≠ BitVec.allOnes 32 → ∃ xs : List Nat, xs.Pairwise (· < ·) ∧
         (∀ x, x ∈ xs ↔ f.toNat ≤ x ∧ x < f.toNat + n.toNat) ∧
         exec (.disclaim p h f n) s = .next { s with oc := { s.oc with
           extents := s.oc.extents.mapIdx fun x e =>
             if f.toNat ≤ x ∧ x < f.toNat + n.toNat then { e with mark := some ⟨.disclaim, none⟩ } else e,
           steps := s.oc.steps ++ [⟨s.oc.nextStep, .disclaim, some none, xs, some p, some h.ref, .quiesce, none⟩],
           nextStep := s.oc.nextStep + 1 } }) ∧
     (h.length = 11#16 → ∀ (code : Byte) (x : Policy), (code = 0#8 ∧ x = .shared) ∨ (code = 1#8 ∧ x = .owner) →
       ∃ t : State, exec (.setPolicy p h f n code) s = .next t ∧
         t = { s with oc := t.oc, ic := t.ic } ∧
         t.oc = { s.oc with extents := s.oc.extents.mapIdx fun i e =>
           if f.toNat ≤ i ∧ i < f.toNat + n.toNat then { e with policy := x } else e } ∧
         (s.ic.cycle = .idle → t.ic = { s.ic with
           tickets := s.ic.tickets ++ [⟨s.ic.generation + 1, .policy p h.ref⟩], beginDue := true }) ∧
         (s.ic.cycle ≠ .idle → t.ic = { s.ic with
           tickets := s.ic.tickets ++ [⟨s.ic.generation + 1, .policy p h.ref⟩], dirty := true })))

/-! ### Transfer steps and tickets (chapters 4 and 9) -/

/-- R62, R63, R64: a step whose QUIESCE is met commits: E_map rises by one below its greatest value, owners and change
epochs of the extent set take the destination and the new epoch, a CLEAR step sets every policy to SHARED, marks and
all else in the table stay, and the step takes a ticket in PERSIST. At saturation the kinds that may, commit without a
rise. R150, R163: the takeover or park record that waits on the step passes to PERSIST, and nothing else of the Takeover
Controller changes. R63: a DISCLAIM, a CLAIM or a RELEASE step that finds E_map saturated ends EXHAUSTED: its marks are
cleared, no owner and no epoch changes, no ticket is taken, and the answer goes to its requester: that of a claim's step to
the claimant, whose claim closes (R70), that of a CLAIM without a claim with claim id 0 (R68), that of a RELEASE to the port
whose ENROL is over and which is not ENROLLED (R126, with the flags of log 25), also when the port was fenced meanwhile,
which is the model's choice (log 55). No settlement is owed here (R73). That the steps in WAITING are then looked at,
whichever step ends, is the model's choice (log 48). -/
def Obligations.StepCommits : Prop :=
  (∀ (u : TransferStep) (v : Epoch) (s : State), s.oc.findStep u.id = some u → u.stage = .quiesce →
     (∀ x ∈ u.extents, ∀ e, s.oc.extents[x]? = some e → e.inflight = 0) →
     (s.oc.emap ≠ BitVec.allOnes 32 → v = s.oc.emap + 1) →
     (s.oc.emap = BitVec.allOnes 32 → v = s.oc.emap ∧ (u.kind = .takeover ∨ u.kind = .park ∨ u.kind = .clear)) →
     ∃ t : State, exec (.quiesceMetCommit u.id) s = .next t ∧
       t = { s with oc := t.oc, tc := t.tc, ic := t.ic, mi := t.mi } ∧
       t.oc = { s.oc with
         emap := v,
         extents := s.oc.extents.mapIdx fun x e =>
           { e with owner := if x ∈ u.extents then u.dest.join else e.owner,
                    epoch := if x ∈ u.extents then v else e.epoch,
                    policy := if u.kind = .clear then .shared else e.policy },
         steps := s.oc.steps.map fun w => if w.id = u.id then { w with stage := .persist } else w } ∧
       (∀ p : Port, (s.tc.records.get p).step = some u.id → (t.tc.records.get p).stage = .persist) ∧
       t.mi = (if v = BitVec.allOnes 32 then { s.mi with events := s.mi.events ||| 1024#16 } else s.mi) ∧
       (s.ic.bridge ≠ .halted → s.ic.cycle = .idle → t.ic = { s.ic with
         tickets := s.ic.tickets ++ [⟨s.ic.generation + 1, .step u.id⟩], beginDue := true }) ∧
       (s.ic.bridge ≠ .halted → s.ic.cycle ≠ .idle → t.ic = { s.ic with
         tickets := s.ic.tickets ++ [⟨s.ic.generation + 1, .step u.id⟩], dirty := true }) ∧
       (s.ic.bridge = .halted → t.ic = { s.ic with served := s.ic.served ++ [⟨.step u.id, false⟩] })) ∧
  (∀ (u : TransferStep) (p : Port) (ref : Word) (s : State), s.oc.findStep u.id = some u → u.stage = .quiesce →
     u.kind = .disclaim → u.port = some p → u.ref = some ref → s.oc.claims = [] →
     (∀ x ∈ u.extents, ∀ e, s.oc.extents[x]? = some e → e.inflight = 0) → s.oc.emap = BitVec.allOnes 32 →
     ∃ t : State, exec (.quiesceMetCommit u.id) s = .next t ∧
       t.oc = { s.oc with
         extents := s.oc.extents.mapIdx fun x e => if x ∈ u.extents then { e with mark := none } else e,
         steps := s.oc.steps.filter fun w => w.id ≠ u.id,
         admitDue := t.oc.admitDue } ∧
       (t.oc.admitDue = true ↔ ∃ w ∈ s.oc.steps, w.id ≠ u.id ∧ w.stage = .waiting) ∧
       t = { answer p ref noFlags .exhausted (.disclaim s.oc.emap) (raise .epochExhausted s) with oc := t.oc }) ∧
  (∀ (u : TransferStep) (s : State), s.oc.findStep u.id = some u → u.stage = .quiesce →
     (∀ x ∈ u.extents, ∀ e, s.oc.extents[x]? = some e → e.inflight = 0) →
     s.oc.emap ≠ BitVec.allOnes 32 ∨ u.kind = .takeover ∨ u.kind = .park ∨ u.kind = .clear →
     ∃ t : State, exec (.quiesceMetCommit u.id) s = .next t ∧
       t.tc = { s.tc with records := t.tc.records, parks := t.tc.parks } ∧
       (∀ p : Port,
         t.tc.records.get p =
           (if (s.tc.records.get p).step = some u.id then { s.tc.records.get p with stage := .persist }
            else s.tc.records.get p) ∧
         t.tc.parks.get p =
           (s.tc.parks.get p).map fun r => if r.step = some u.id then { r with stage := .persist } else r)) ∧
  (∀ (u : TransferStep) (s v : State) (wait : Bool), s.oc.findStep u.id = some u → u.stage = .quiesce →
     (∀ x ∈ u.extents, ∀ e, s.oc.extents[x]? = some e → e.inflight = 0) → s.oc.emap = BitVec.allOnes 32 →
     (∀ c ∈ s.oc.claims, c.owed = false) →
     (wait = true ↔ ∃ w ∈ s.oc.steps, w.id ≠ u.id ∧ w.stage = .waiting) →
     v = { s with
       mi := { s.mi with events := s.mi.events ||| 1024#16 },
       oc := { s.oc with
         extents := s.oc.extents.mapIdx (fun x e => if x ∈ u.extents then { e with mark := none } else e),
         steps := s.oc.steps.filter (fun w => w.id ≠ u.id), admitDue := wait } } →
     (∀ c : Claim, u.kind = .claim → s.oc.claims.find? (fun d => d.step = some u.id) = some c →
       exec (.quiesceMetCommit u.id) s = .next (answer c.claimant c.ref noFlags .exhausted (.claim c.id s.oc.emap)
         { v with oc := { v.oc with
           claims := s.oc.claims.filter (fun d => d.id ≠ c.id),
           extents := v.oc.extents.map fun e => if e.claim = some c.id then { e with claim := none } else e } })) ∧
     (∀ (p : Port) (ref : Word), u.kind = .claim → (∀ c ∈ s.oc.claims, c.step ≠ some u.id) → u.port = some p →
       u.ref = some ref →
       exec (.quiesceMetCommit u.id) s = .next (answer p ref noFlags .exhausted (.claim 0 s.oc.emap) v)) ∧
     (∀ (p : Port) (e : Enrolment), u.kind = .release → u.port = some p → (s.sup.get p).enrol = some e →
       exec (.quiesceMetCommit u.id) s = .next
         (answer p e.ref ⟨false, false, e.accepted = .fenced, false⟩ .exhausted (s.enrolBody p)
           (v.onSup p fun y => { y with enrol := none }))))

/-- R59, R60: a whole-port step that is asked for. When no extent concerned is marked it is admitted: its extent set is
read, the destination chosen and the marks set, or with an empty set it passes straight to PERSIST with no rise; when one
is marked it stands in WAITING and changes nothing. The destination is that of R59, R150 and R163. -/
def Obligations.WholeStepAdmitted : Prop :=
  ∀ (kind : StepKind) (port : Option Port) (ref : Option Word) (s t : State) (dest : Option Port),
    (kind = .clear ∧ port = none) ∨ ((kind = .takeover ∨ kind = .park ∨ kind = .release) ∧ port ≠ none) →
    (∀ u ∈ s.oc.steps, u.id ≠ s.oc.nextStep) → t = requestStep kind port ref s →
    (kind = .clear ∨ kind = .release → dest = none) →
    (∀ p : Port, port = some p → kind = .park →
      dest = if s.port p.peer = .enrolled then some p.peer else none) →
    (∀ p : Port, port = some p → kind = .takeover →
      dest = if s.port p.peer = .enrolled ∧ s.cfg.destination = .survivor then some p.peer else none) →
    t.oc.nextStep = s.oc.nextStep + 1 ∧ t.oc.emap = s.oc.emap ∧
    t = { s with oc := t.oc, tc := t.tc, ic := t.ic } ∧
    ((∃ e ∈ s.oc.extents, concernedIn kind port e = true ∧ e.mark ≠ none) →
      t.oc.extents = s.oc.extents ∧ t.tc = s.tc ∧ t.ic = s.ic ∧
      t.oc.steps = s.oc.steps ++ [⟨s.oc.nextStep, kind, none, [], port, ref, .waiting, none⟩]) ∧
    ((∀ e ∈ s.oc.extents, concernedIn kind port e = true → e.mark = none) →
      (s.oc.wholeSet kind port ≠ [] →
        t.oc.extents = s.oc.extents.mapIdx (fun x e =>
          if x ∈ s.oc.wholeSet kind port then { e with mark := some ⟨kind, dest⟩ } else e) ∧ t.ic = s.ic ∧
        t.oc.steps = s.oc.steps ++
          [⟨s.oc.nextStep, kind, some dest, s.oc.wholeSet kind port, port, ref, .quiesce, none⟩]) ∧
      (s.oc.wholeSet kind port = [] →
        t.oc.extents = s.oc.extents ∧
        t.oc.steps = s.oc.steps ++ [⟨s.oc.nextStep, kind, some dest, [], port, ref, .persist, none⟩])) ∧
    (∀ x, x ∈ s.oc.wholeSet kind port ↔ ∃ e, s.oc.extents[x]? = some e ∧
      ((kind = .clear ∧ e.owner ≠ none) ∨ (kind ≠ .clear ∧ port ≠ none ∧ e.owner = port)))

/-- R60, R119, R149, R150, R163: at PORT_CLEAR a takeover in DRAIN asks for its TAKEOVER step and a park in DRIVE for its
PARK step, each timer stopped; at QUEUE_EMPTY_REPORT a park passes from QUEUE to DRIVE and asks for the report; and at
WAITING_STEP_ADMITTED a step in WAITING whose extents are free is admitted. None does anything when it is not due. R60,
R59, R150, R163: the steps in WAITING are looked at one after another in the order of their requests: one with an extent
concerned that is marked, by a step just admitted too, goes on waiting; any other is admitted, its set read afresh and its
destination chosen then, and with an empty set it passes to PERSIST and takes its ticket. That a step is admitted at the
first release that finds its extents free, whichever step is released (log 48), and a RELEASE also while the bridge is
HALTED (log 49), is the model's choice. -/
def Obligations.DrainReported : Prop :=
  (∀ (p : Port) (s : State),
    (s.dct.clearReq.get p = true → (∀ e ∈ s.dct.entries, e.origin ≠ .server p) →
      ((s.tc.records.get p).stage = .drain →
        exec (.portClear p) s = .next (requestStep .takeover (some p) none { s with
          dct := { s.dct with clearReq := s.dct.clearReq.set p false },
          tc := { s.tc with
            records := s.tc.records.set p { s.tc.records.get p with
              stage := .transfer, drain := none, step := some s.oc.nextStep } } })) ∧
      (∀ r : ParkRecord, (s.tc.records.get p).stage ≠ .drain → s.tc.parks.get p = some r → r.stage = .drive →
        exec (.portClear p) s = .next (requestStep .park (some p) none { s with
          sup := s.sup.set p { s.sup.get p with park := none },
          dct := { s.dct with clearReq := s.dct.clearReq.set p false },
          tc := { s.tc with
            parks := s.tc.parks.set p (some { r with stage := .transfer, step := some s.oc.nextStep }) } }))) ∧
    (s.dct.clearReq.get p = false ∨ (∃ e ∈ s.dct.entries, e.origin = .server p) →
      exec (.portClear p) s = .next s) ∧
    (∀ r : ParkRecord, s.tc.parks.get p = some r → r.stage = .queue → s.au.queue.get p = [] →
      exec (.queueEmptyReport p) s = .next { s with
        tc := { s.tc with parks := s.tc.parks.set p (some { r with stage := .drive }) },
        dct := { s.dct with clearReq := s.dct.clearReq.set p true } }) ∧
    (s.au.queue.get p ≠ [] → exec (.queueEmptyReport p) s = .next s) ∧
    (∀ u : TransferStep, s.oc.admitDue = true → s.oc.steps = [u] → u.stage = .waiting → u.kind = .release →
      u.port = some p → (∀ e ∈ s.oc.extents, (e.owner = some p → e.mark = none) ∧ ∀ m, e.mark = some m → m.dest ≠ some p) →
      (∀ q : Port, (s.tc.records.get q).step ≠ some u.id) → s.oc.owns p = true →
      exec .waitingStepAdmitted s = .next { s with oc := { s.oc with
        admitDue := false,
        extents := s.oc.extents.map fun e => if e.owner = some p then { e with mark := some ⟨.release, none⟩ } else e,
        steps := [{ u with dest := some none, extents := s.oc.indexes fun e => e.owner == some p,
                           stage := .quiesce }] } }) ∧
    (s.oc.admitDue = false → exec .waitingStepAdmitted s = .next s)) ∧
  (∀ s : State, s.oc.admitDue = true → exec .waitingStepAdmitted s =
     .next (s.oc.steps.foldl admitIfFree { s with oc := { s.oc with admitDue := false } })) ∧
  (∀ (u : TransferStep) (s : State) (dest : Option Port) (xs : List Nat), xs = s.oc.wholeSet u.kind u.port →
     (u.kind = .clear ∧ u.port = none) ∨ ((u.kind = .takeover ∨ u.kind = .park ∨ u.kind = .release) ∧ u.port ≠ none) →
     (u.kind = .clear ∨ u.kind = .release → dest = none) →
     (∀ p : Port, u.port = some p → u.kind = .park → dest = if s.port p.peer = .enrolled then some p.peer else none) →
     (∀ p : Port, u.port = some p → u.kind = .takeover →
       dest = if s.port p.peer = .enrolled ∧ s.cfg.destination = .survivor then some p.peer else none) →
     (u.stage ≠ .waiting → admitIfFree s u = s) ∧
     ((∃ e ∈ s.oc.extents, concernedIn u.kind u.port e = true ∧ e.mark ≠ none) → admitIfFree s u = s) ∧
     (u.stage = .waiting → (∀ e ∈ s.oc.extents, concernedIn u.kind u.port e = true → e.mark = none) →
       ∃ t : State, admitIfFree s u = t ∧ t = { s with oc := t.oc, tc := t.tc, ic := t.ic } ∧
         t.oc = { s.oc with
           extents := s.oc.extents.mapIdx fun x e => if x ∈ xs then { e with mark := some ⟨u.kind, dest⟩ } else e,
           steps := s.oc.steps.map fun w =>
             if w.id = u.id then
               { w with dest := some dest, extents := xs, stage := if xs = [] then .persist else .quiesce }
             else w } ∧
         (∀ q : Port, t.tc.records.get q =
           if (s.tc.records.get q).step = some u.id then
             { s.tc.records.get q with
               dest := some dest, stage := if xs = [] then .persist else (s.tc.records.get q).stage }
           else s.tc.records.get q) ∧
         (∀ q : Port, t.tc.parks.get q = (s.tc.parks.get q).map fun r =>
           if xs = [] ∧ r.step = some u.id then { r with stage := .persist } else r) ∧
         t.tc = { s.tc with records := t.tc.records, parks := t.tc.parks } ∧
         (xs ≠ [] → t.ic = s.ic) ∧
         (xs = [] → t.ic = (takeTicket (.step u.id) s).ic))) ∧
  (∀ (kind : StepKind) (port : Option Port) (e : Extent), concernedIn kind port e = true ↔
     (kind = .clear ∧ (e.owner ≠ none ∨ ∃ m, e.mark = some m ∧ m.dest ≠ none)) ∨
       (kind ≠ .clear ∧ ∃ p, port = some p ∧ (e.owner = some p ∨ ∃ m, e.mark = some m ∧ m.dest = some p)))

/-- R65, R68, R76, R77, R170, R185, R187: a served ticket of SET POLICY, of WRITE CONFIG, and of a DISCLAIM, a CLAIM
and a CLEAR step. The durability is told as it was served; a step's marks are cleared and its record is removed. No
claim is open here, so no settlement follows (R73). R70, R74: the CLAIM step of a claim is released: the claim closes,
its pending claim fields are cleared, and the claimant is answered GRANTED with the claim id and the map epoch at
release. One claim is open here, and its ids differ. R128, R179: the ticket of an ENROL accepted in RECOVERY is
served: the ENROL is answered DONE, and at the first one the bridge enters SERVICE with the start window, the first
share window and the queue depths. R126: the RELEASE step of an ENROL is released: the enrolment is over, and the port
enters ENROLLED and is answered DONE when it is still in its state of acceptance with its link UP, RUNNING and of the
same identity, and is answered NOT_READY otherwise; the flags are those of log 25. R133, R134: the peer is judged when the
port has entered ENROLLED.
That the steps in WAITING are looked at after the release of any step is the model's choice (log 48). -/
def Obligations.TicketServed : Prop :=
  (∀ (s : State) (durable : Bool), s.oc.admitDue = false →
     (∀ (p : Port) (ref : Word), s.ic.served = [⟨.policy p ref, durable⟩] →
       exec .ticketServed s = .next (answer p ref ⟨!durable, false, false, false⟩ .done (.setPolicy s.oc.emap)
         { s with ic := { s.ic with served := [] } })) ∧
     (∀ clamped held : Bool, s.ic.served = [⟨.config clamped held, durable⟩] →
       exec .ticketServed s = .next { s with
         ic := { s.ic with served := [] },
         mi := { s.mi with
           answer := ⟨s.mi.answer.seq, s.mi.answer.kind, .final .done, ⟨!durable, clamped, held⟩, []⟩ } }) ∧
     (∀ u : TransferStep, s.ic.served = [⟨.step u.id, durable⟩] → s.oc.findStep u.id = some u → s.oc.claims = [] →
       ∃ t : State, exec .ticketServed s = .next t ∧
         ((u.kind = .disclaim ∨ u.kind = .claim ∨ u.kind = .clear) →
           t.oc = { s.oc with
             extents := s.oc.extents.mapIdx fun x e => if x ∈ u.extents then { e with mark := none } else e,
             steps := s.oc.steps.filter fun w => w.id ≠ u.id,
             admitDue := t.oc.admitDue } ∧
           (t.oc.admitDue = true ↔ ∃ w ∈ s.oc.steps, w.id ≠ u.id ∧ w.stage = .waiting)) ∧
         (∀ (p : Port) (ref : Word), u.kind = .disclaim → u.port = some p → u.ref = some ref →
           t = answer p ref ⟨!durable, false, false, false⟩ .done (.disclaim s.oc.emap)
             { s with ic := { s.ic with served := [] }, oc := t.oc }) ∧
         (∀ (p : Port) (ref : Word), u.kind = .claim → u.port = some p → u.ref = some ref →
           t = answer p ref ⟨!durable, false, false, false⟩ .granted (.claim 0 s.oc.emap)
             { s with ic := { s.ic with served := [] }, oc := t.oc }) ∧
         (u.kind = .clear →
           t = { s with
             ic := { s.ic with served := [] }, oc := t.oc,
             mi := { s.mi with answer := ⟨s.mi.answer.seq, s.mi.answer.kind, .final .done, ⟨!durable, false, false⟩,
               leBytes 4 s.oc.emap.toNat ++ leBytes 2 u.extents.length⟩ } }))) ∧
  (∀ (s : State) (durable : Bool) (u : TransferStep) (c : Claim), s.oc.admitDue = false →
     s.ic.served = [⟨.step u.id, durable⟩] → s.oc.findStep u.id = some u → u.kind = .claim → s.oc.claims = [c] →
     c.step = some u.id →
     ∃ t : State, exec .ticketServed s = .next t ∧
       t = answer c.claimant c.ref ⟨!durable, false, false, false⟩ .granted (.claim c.id s.oc.emap)
         { s with ic := { s.ic with served := [] }, oc := t.oc } ∧
       t.oc = { s.oc with
         claims := [],
         extents := s.oc.extents.mapIdx fun x e =>
           { e with mark := if x ∈ u.extents then none else e.mark,
                    claim := if e.claim = some c.id then none else e.claim },
         steps := s.oc.steps.filter fun w => w.id ≠ u.id,
         admitDue := t.oc.admitDue } ∧
       (t.oc.admitDue = true ↔ ∃ w ∈ s.oc.steps, w.id ≠ u.id ∧ w.stage = .waiting)) ∧
  ((∀ (s : State) (durable first : Bool) (p : Port) (e : Enrolment), s.oc.admitDue = false →
     s.ic.served = [⟨.enrol p first, durable⟩] → (s.sup.get p).enrol = some e →
     ∃ t : State, exec .ticketServed s = .next t ∧
       t.plu = s.plu.set p ((s.plu.get p).handOver
         (.answer e.ref ⟨!durable, false, e.accepted = .fenced, false⟩ .done (s.enrolBody p))) ∧
       t.sup = s.sup.set p { s.sup.get p with enrol := none } ∧
       t = { s with plu := t.plu, sup := t.sup, startWindow := t.startWindow, au := t.au, ic := t.ic } ∧
       (first = false ∨ s.ic.bridge ≠ .recovery →
         t.startWindow = s.startWindow ∧ t.au = s.au ∧ t.ic = { s.ic with served := [] }) ∧
       (first = true → s.ic.bridge = .recovery →
         t.startWindow = some s.cfg.tSw ∧ t.ic = { s.ic with served := [], bridge := .service } ∧
         t.au = { s.au with
           depth := ⟨s.cfg.depth, s.cfg.depth⟩, w := 0, granted := ⟨0, 0⟩,
           window := some ⟨s.cfg.window,
             ⟨if s.port .a = .enrolled ∨ s.port .a = .parking then s.cfg.guar.a else 0,
              if s.port .b = .enrolled ∨ s.port .b = .parking then s.cfg.guar.b else 0⟩⟩ })) ∧
   ∀ (s : State) (durable : Bool) (u : TransferStep) (p : Port) (e : Enrolment), s.oc.admitDue = false →
     s.ic.served = [⟨.step u.id, durable⟩] → s.oc.findStep u.id = some u → u.kind = .release → u.port = some p →
     s.oc.claims = [] → (s.sup.get p).enrol = some e → (s.sup.get p.peer).judged = false →
     ∃ t : State, exec .ticketServed s = .next t ∧
       t = { s with plu := t.plu, sup := t.sup, oc := t.oc, ic := { s.ic with served := [] } } ∧
       t.oc.extents = (s.oc.extents.mapIdx fun x y => if x ∈ u.extents then { y with mark := none } else y) ∧
       t.oc.steps = (s.oc.steps.filter fun w => w.id ≠ u.id) ∧ t.oc.emap = s.oc.emap ∧
       ((e.accepted = s.port p ∨ ((e.accepted = .linked ∨ e.accepted = .offline) ∧ (s.port p = .linked ∨ s.port p = .offline))) →
         (s.plu.get p).align ≠ .down → (s.plu.get p).settled.health = .running →
         (s.plu.get p).settled.identity = e.identity →
         t.plu = s.plu.set p ((s.plu.get p).handOver
           (.answer e.ref ⟨!durable, false, e.accepted = .fenced, true⟩ .done (s.enrolBody p))) ∧
         t.sup = s.sup.set p { s.sup.get p with
           state := .enrolled, identity := e.identity, cause := .none, stall := 0, enrol := none } ∧
         t.oc.ownerId = s.oc.ownerId.set p e.identity) ∧
       ((¬(e.accepted = s.port p ∨
             ((e.accepted = .linked ∨ e.accepted = .offline) ∧ (s.port p = .linked ∨ s.port p = .offline))) ∨
           (s.plu.get p).align = .down ∨ (s.plu.get p).settled.health ≠ .running ∨
           (s.plu.get p).settled.identity ≠ e.identity) →
         t.plu = s.plu.set p ((s.plu.get p).handOver
           (.answer e.ref ⟨!durable, false, e.accepted = .fenced, true⟩ .notReady (s.enrolBody p))) ∧
         t.sup = s.sup.set p { s.sup.get p with enrol := none } ∧ t.oc.ownerId = s.oc.ownerId)) ∧
  (∀ (s v : State) (durable wait : Bool) (u : TransferStep) (p : Port) (e : Enrolment), s.oc.admitDue = false →
     s.ic.served = [⟨.step u.id, durable⟩] → s.oc.findStep u.id = some u → u.kind = .release → u.port = some p →
     s.oc.claims = [] → (s.sup.get p).enrol = some e →
     (wait = true ↔ ∃ w ∈ s.oc.steps, w.id ≠ u.id ∧ w.stage = .waiting) →
     (e.accepted = s.port p ∨ ((e.accepted = .linked ∨ e.accepted = .offline) ∧ (s.port p = .linked ∨ s.port p = .offline))) →
     (s.plu.get p).align ≠ .down → (s.plu.get p).settled.health = .running →
     (s.plu.get p).settled.identity = e.identity →
     v = { s with
       plu := s.plu.set p ((s.plu.get p).handOver
         (.answer e.ref ⟨!durable, false, e.accepted = .fenced, true⟩ .done (s.enrolBody p))),
       sup := s.sup.set p { s.sup.get p with
         state := .enrolled, identity := e.identity, cause := .none, stall := 0, enrol := none },
       oc := { s.oc with
         extents := s.oc.extents.mapIdx (fun x y => if x ∈ u.extents then { y with mark := none } else y),
         steps := s.oc.steps.filter (fun w => w.id ≠ u.id), ownerId := s.oc.ownerId.set p e.identity },
       ic := { s.ic with served := [] } } →
     ∃ t : State, PeerJudged p v t ∧
       exec .ticketServed s = .next { t with oc := { t.oc with admitDue := wait } })

/-- R152, R164, R190: the release of a TAKEOVER step closes the record, raises TAKEOVER_DONE and hands the destination a
HANDOVER NOTICE with its pending flag set; that of a PARK step takes the port to PARKED, answers the PARK and hands the
notice, with no claim open. R73, R190: after these messages the claim that waits on the port as holder is settled by the
owners of its extents (GRANTED with nothing to move carries no flag, log 51), or, while one of them carries a mark, at
the release of the last such step, here of a DISCLAIM (log 21); that a takeover does so while the port is PARKING again is
the model's choice (log 44). R146: the release that a closing-list entry waits on sends the notice of that takeover, raises
TAKEOVER_DONE and removes the entry, and no claim is settled. R165: that of a park cut off by a fence removes the record and
sends the notice; the PARK is not answered and the port stays as it is. That the steps in WAITING are looked at after any of these releases is the model's choice (log 48). -/
def Obligations.HandoverCompletes : Prop :=
  (∀ (s : State) (durable : Bool) (u : TransferStep) (p : Port), s.oc.admitDue = false →
    s.ic.served = [⟨.step u.id, durable⟩] → s.oc.findStep u.id = some u → s.oc.claims = [] → u.port = some p →
    (∀ dest : Option Port, u.kind = .takeover → u.dest = some dest → (∀ x ∈ s.tc.closing, x.step ≠ u.id) →
      (s.tc.records.get p).step = some u.id →
      ∃ t : State, exec .ticketServed s = .next t ∧
        t.tc = { s.tc with
          records := s.tc.records.set p { s.tc.records.get p with stage := .closed, step := none } } ∧
        t.mi.events = s.mi.events ||| 2#16 ∧ t.oc.extents = s.oc.extents.mapIdx (fun x e =>
          if x ∈ u.extents then { e with mark := none } else e) ∧ t.oc.emap = s.oc.emap ∧ t.sup = s.sup ∧
        (dest = none → t.plu = s.plu) ∧
        (∀ q : Port, dest = some q →
          t.plu = s.plu.set q { (s.plu.get q).handOver
              (.handoverNotice .takeover p s.oc.emap u.extents.length
                (if (s.tc.records.get p).count = 0 then 0 else (s.tc.records.get p).setId)
                (s.tc.records.get p).count (!durable)) with
            handover := true })) ∧
    (∀ (dest : Option Port) (r : ParkRecord), u.kind = .park → u.dest = some dest → s.tc.parks.get p = some r →
      r.step = some u.id → r.cut = false → dest ≠ some p →
      ∃ t : State, exec .ticketServed s = .next t ∧
        t.tc = { s.tc with parks := s.tc.parks.set p none } ∧
        t.sup = s.sup.set p { s.sup.get p with state := .parked, park := none } ∧ t.mi = s.mi ∧
        t.oc.extents = s.oc.extents.mapIdx (fun x e => if x ∈ u.extents then { e with mark := none } else e) ∧
        t.oc.emap = s.oc.emap ∧
        t.plu.get p = (s.plu.get p).handOver
          (.answer r.ref ⟨!durable, false, false, false⟩ .done (.park s.oc.emap)) ∧
        (dest = some p.peer →
          t.plu.get p.peer = { (s.plu.get p.peer).handOver
              (.handoverNotice .park p s.oc.emap u.extents.length 0 0 (!durable)) with handover := true }) ∧
        (dest = none → t.plu.get p.peer = s.plu.get p.peer))) ∧
  (∀ (s v : State) (durable wait : Bool) (u : TransferStep) (p : Port) (dest : Option Port) (c : Claim) (notice : OutMsg)
     (own : Plu) (sup : PerPort Supervisor) (tc : Tc) (events : Word), s.oc.admitDue = false →
     s.ic.served = [⟨.step u.id, durable⟩] → s.oc.findStep u.id = some u → u.port = some p → u.dest = some dest →
     dest ≠ some p → s.oc.claims = [c] → c.claimant = p.peer → c.state = .waiting →
     (wait = true ↔ ∃ w ∈ s.oc.steps, w.id ≠ u.id ∧ w.stage = .waiting) →
     (u.kind = .takeover ∧ (∀ x ∈ s.tc.closing, x.step ≠ u.id) ∧ (s.tc.records.get p).step = some u.id ∧
         notice = .handoverNotice .takeover p s.oc.emap u.extents.length
           (if (s.tc.records.get p).count = 0 then 0 else (s.tc.records.get p).setId) (s.tc.records.get p).count (!durable) ∧
         own = s.plu.get p ∧ sup = s.sup ∧ events = s.mi.events ||| 2#16 ∧
         tc = { s.tc with
           records := s.tc.records.set p { s.tc.records.get p with stage := .closed, step := none } }) ∨
       (u.kind = .park ∧ (∃ r, s.tc.parks.get p = some r ∧ r.step = some u.id ∧ r.cut = false ∧
           own = (s.plu.get p).handOver (.answer r.ref ⟨!durable, false, false, false⟩ .done (.park s.oc.emap))) ∧
         notice = .handoverNotice .park p s.oc.emap u.extents.length 0 0 (!durable) ∧ events = s.mi.events ∧
         sup = s.sup.set p { s.sup.get p with state := .parked, park := none } ∧
         tc = { s.tc with parks := s.tc.parks.set p none }) →
     v = { s with
       plu := (s.plu.set p own).set p.peer
         (if dest = some p.peer then { (s.plu.get p.peer).handOver notice with handover := true }
          else s.plu.get p.peer),
       sup := sup, tc := tc, ic := { s.ic with served := [] }, mi := { s.mi with events := events },
       oc := { s.oc with
         extents := s.oc.extents.mapIdx (fun x e => if x ∈ u.extents then { e with mark := none } else e),
         steps := s.oc.steps.filter (fun w => w.id ≠ u.id), admitDue := wait, claims := [{ c with owed := true }] } } →
     ((∃ e ∈ (v.oc.extents.drop c.first).take c.count, e.mark ≠ none) → exec .ticketServed s = .next v) ∧
     ((∀ e ∈ (v.oc.extents.drop c.first).take c.count, e.mark = none) →
       ∃ t : State, exec .ticketServed s = .next t ∧ ClaimSettled c v t)) ∧
  (∀ (s v : State) (durable wait : Bool) (u : TransferStep) (q : Port) (ref : Word) (c : Claim), s.oc.admitDue = false →
     s.ic.served = [⟨.step u.id, durable⟩] → s.oc.findStep u.id = some u → u.kind = .disclaim → u.port = some q →
     u.ref = some ref → s.oc.claims = [c] → c.state = .waiting → c.owed = true →
     (wait = true ↔ ∃ w ∈ s.oc.steps, w.id ≠ u.id ∧ w.stage = .waiting) →
     v = answer q ref ⟨!durable, false, false, false⟩ .done (.disclaim s.oc.emap) { s with
       ic := { s.ic with served := [] },
       oc := { s.oc with
         extents := s.oc.extents.mapIdx (fun x e => if x ∈ u.extents then { e with mark := none } else e),
         steps := s.oc.steps.filter (fun w => w.id ≠ u.id), admitDue := wait } } →
     ((∃ e ∈ (v.oc.extents.drop c.first).take c.count, e.mark ≠ none) → exec .ticketServed s = .next v) ∧
     ((∀ e ∈ (v.oc.extents.drop c.first).take c.count, e.mark = none) →
       ∃ t : State, exec .ticketServed s = .next t ∧ ClaimSettled c v t)) ∧
  (∀ (s : State) (durable wait : Bool) (u : TransferStep) (p : Port) (dest : Option Port) (notice : OutMsg) (tc : Tc)
     (events : Word), s.oc.admitDue = false →
     s.ic.served = [⟨.step u.id, durable⟩] → s.oc.findStep u.id = some u → u.port = some p →
     (∀ c ∈ s.oc.claims, c.owed = false) →
     (wait = true ↔ ∃ w ∈ s.oc.steps, w.id ≠ u.id ∧ w.stage = .waiting) →
     (∃ x : Closing, u.kind = .takeover ∧ s.tc.closing.find? (fun y => y.step = u.id) = some x ∧ x.dest = dest ∧
         notice = .handoverNotice .takeover x.port s.oc.emap u.extents.length (if x.count = 0 then 0 else x.setId) x.count
           (!durable) ∧
         events = s.mi.events ||| 2#16 ∧
         tc = { s.tc with closing := s.tc.closing.filter fun y => y.step ≠ u.id }) ∨
       (∃ r : ParkRecord, u.kind = .park ∧ u.dest = some dest ∧ s.tc.parks.get p = some r ∧ r.step = some u.id ∧
         r.cut = true ∧ notice = .handoverNotice .park p s.oc.emap u.extents.length 0 0 (!durable) ∧
         events = s.mi.events ∧ tc = { s.tc with parks := s.tc.parks.set p none }) →
     exec .ticketServed s = .next { s with
       plu := (match dest with
         | none => s.plu
         | some q => s.plu.set q { (s.plu.get q).handOver notice with handover := true }),
       tc := tc, ic := { s.ic with served := [] }, mi := { s.mi with events := events },
       oc := { s.oc with
         extents := s.oc.extents.mapIdx (fun x e => if x ∈ u.extents then { e with mark := none } else e),
         steps := s.oc.steps.filter (fun w => w.id ≠ u.id), admitDue := wait } })

/-! ### Fences and the intent list (chapters 7 and 8) -/

/-- R140, R145, R147, R117, R83, R144, R146, R165: what a fence does, by any of its sources: the supervisor, the takeover
record and its new set id, a takeover in PERSIST moved to the closing list, a park ended or cut off, the queue, the claims,
the entries at the drive, the intent set, the notice, the events and the drain; under the fence mode ABORT the ABORTs go to
the drive in table order (log 37). That a claim of the peer already in WAITING is no longer owed a settlement, which the close
of this fence's record will make, is the model's reading (log 21). R144: the set id is the first value after the fence count
that is not passed over. R73, R74: the port's own claim closes, and those of the peer wait; claim ids differ (R69), and a port
has at most one claim open. A fence of a port already FENCED, or while the bridge is STARTING, does nothing (R139). -/
def Obligations.FenceCutsOff : Prop :=
  ∀ (p : Port) (cause : FenceCause) (s t : State) (ws : List Entry) (id : Word), t = fencePort p cause s →
    ws = s.dct.entries.filter (fun e => e.origin = .server p ∧ e.op = .write) → id = (s.tc.moveClosing p).nextSetId p →
    (s.port p = .fenced ∨ s.ic.bridge = .starting → t = s) ∧
    (s.port p ≠ .fenced → s.ic.bridge ≠ .starting →
      t = { s with plu := t.plu, sup := t.sup, oc := t.oc, au := t.au, dct := t.dct, tc := t.tc, mi := t.mi } ∧
      t.sup = s.sup.set p { s.sup.get p with
        state := .fenced, confirm := none, confirmed := false, park := none, cause := .none, stall := 0 } ∧
      t.au = { s.au with queue := s.au.queue.set p [] } ∧
      t.tc.fenceCount = id ∧ t.tc.records.get p.peer = s.tc.records.get p.peer ∧
      t.tc.records.get p = ⟨some cause, id, .drain, (t.tc.records.get p).drain, none, ws.length, none⟩ ∧
      (((s.tc.moveClosing p).usedSetIds p).contains (succSetId s.tc.fenceCount) = false →
        id = succSetId s.tc.fenceCount) ∧
      (∀ (ids : Nat → Word) (k : Nat), ids 0 = succSetId s.tc.fenceCount → (∀ j, ids (j + 1) = succSetId (ids j)) →
        k ≤ ((s.tc.moveClosing p).usedSetIds p).length →
        (∀ j, j < k → ((s.tc.moveClosing p).usedSetIds p).contains (ids j) = true) →
        ((s.tc.moveClosing p).usedSetIds p).contains (ids k) = false → id = ids k) ∧
      (∀ x : Word, ((s.tc.moveClosing p).usedSetIds p).contains x = true ↔
        (∃ y ∈ s.tc.intents, y.setId = x) ∨ (∃ y ∈ (s.tc.moveClosing p).closing, y.setId = x) ∨
          ((s.tc.records.get p.peer).stage ≠ .closed ∧ (s.tc.records.get p.peer).setId = x)) ∧
      ((s.tc.records.get p).stage ≠ .persist → t.tc.closing = s.tc.closing) ∧
      (∀ step, (s.tc.records.get p).stage = .persist → (s.tc.records.get p).step = some step →
        t.tc.closing = s.tc.closing ++
          [⟨p, (s.tc.records.get p).setId, (s.tc.records.get p).dest.join, (s.tc.records.get p).count, step⟩]) ∧
      t.tc.parks.get p.peer = s.tc.parks.get p.peer ∧ (s.tc.parks.get p = none → t.tc.parks.get p = none) ∧
      (∀ r : ParkRecord, s.tc.parks.get p = some r →
        (r.stage = .queue ∨ r.stage = .drive → t.tc.parks.get p = none) ∧
        (r.stage = .transfer ∨ r.stage = .persist → t.tc.parks.get p = some { r with cut := true })) ∧
      t.dct = { s.dct with clearReq := s.dct.clearReq.set p true, entries := t.dct.entries, out := t.dct.out } ∧
      (t.dct.entries.map fun e => { e with cmdTimer := none, abort := none }) = s.dct.entries.map (fun e =>
        { e with cmdTimer := none, abort := none, watched := if e.origin = .server p then some id else e.watched }) ∧
      (s.oc.claims = [] → t.oc = s.oc) ∧
      (∀ c : Claim, s.oc.claims = [c] →
        (c.claimant = p → t.oc = { s.oc with
          claims := [],
          extents := s.oc.extents.map fun e => if e.claim = some c.id then { e with claim := none } else e }) ∧
        (c.claimant = p.peer → t.oc = { s.oc with
          claims := [if c.state = .asking ∨ c.state = .waiting then
            { c with state := .waiting, deadline := none, owed := false } else c] })) ∧
      ((∀ c ∈ s.oc.claims, c.claimant ≠ p) →
        t.oc = { s.oc with claims := s.oc.claims.map fun c =>
          if c.state = .asking ∨ c.state = .waiting then { c with state := .waiting, deadline := none, owed := false }
          else c }) ∧
      (∀ c ∈ s.oc.claims, c.claimant = p → (∀ d ∈ s.oc.claims, d.claimant = p → d = c) →
        (∀ d ∈ s.oc.claims, d.id = c.id → d = c) →
        t.oc = { s.oc with
          claims := (s.oc.claims.filter fun d => d.claimant ≠ p).map fun d =>
            if d.state = .asking ∨ d.state = .waiting then { d with state := .waiting, deadline := none, owed := false }
            else d,
          extents := s.oc.extents.map fun e => if e.claim = some c.id then { e with claim := none } else e }) ∧
      (ws = [] → t.tc.intents = s.tc.intents ∧ t.tc.discards = s.tc.discards) ∧
      (ws ≠ [] → s.tc.intents.length < 2 → t.tc.discards = s.tc.discards ∧
        t.tc.intents = s.tc.intents ++ [⟨id, p, ws.map intentOf⟩]) ∧
      (ws ≠ [] → 2 ≤ s.tc.intents.length → t.tc.discards = satSucc s.tc.discards ∧
        t.tc.intents = s.tc.intents.drop 1 ++ [⟨id, p, ws.map intentOf⟩]) ∧
      t.mi = { s.mi with
        events := (if ws ≠ [] ∧ 2 ≤ s.tc.intents.length then s.mi.events ||| 512#16 else s.mi.events) ||| 1#16 } ∧
      t.plu.get p.peer = s.plu.get p.peer ∧ ((s.plu.get p).align = .down → t.plu = s.plu) ∧
      ((s.plu.get p).align ≠ .down →
        t.plu.get p = ((s.au.queue.get p).foldl (fun u q => u.handOver (.completion q.tag .fenced 0)) (s.plu.get p)).handOver
          (.fenceNotice cause id s.oc.emap)) ∧
      ((∀ e ∈ s.dct.entries, e.origin ≠ .server p) → (t.tc.records.get p).drain = none ∧ t.dct.out = s.dct.out) ∧
      (s.cfg.fenceMode = .drain → (∃ e ∈ s.dct.entries, e.origin = .server p) →
        (t.tc.records.get p).drain = some s.cfg.tDrn ∧ t.dct.out = s.dct.out ∧
        t.dct.entries.map (fun e => (e.cmdTimer, e.abort)) = s.dct.entries.map (fun e => (e.cmdTimer, e.abort))) ∧
      (s.cfg.fenceMode = .abort →
        (t.tc.records.get p).drain = none ∧
        t.dct.out = s.dct.out ++ ((s.dct.entries.filter fun e => e.origin = .server p ∧ e.abort = none).map fun e =>
          DriveMsg.abort e.tag) ∧
        t.dct.entries.map (fun e => (e.cmdTimer, e.abort)) = s.dct.entries.map (fun e =>
          if e.origin = .server p ∧ e.abort = none then (none, some s.cfg.tAbt) else (e.cmdTimer, e.abort))))

/-- R136, R186: TAKEOVER and FENCE PORT: the tests in their order, and the fence, which is answered with the set id that it
took. The fields that an answer carries beside another result are the model's reading: the target port in a refused TAKEOVER
(log 14), and in FENCE PORT's body zeros with INVALID and set id 0 with NOT_READY, BUSY and the DONE of a port already
FENCED (log 24). That a FENCE PORT of an undefined port is INVALID while the bridge is STARTING too is the model's choice
(log 38). -/
def Obligations.FenceRequested : Prop :=
  (∀ (p : Port) (h : Header) (seq : Byte) (s : State), Quiet s → s.ic.bridge ≠ .starting →
    (h.length = 7#16 →
      (s.port p ≠ .enrolled → exec (.takeover p h (portCode p.peer)) s =
        .next (answer p h.ref noFlags .notEnrolled (.takeover (portCode p.peer) 0) s)) ∧
      (s.port p = .enrolled → s.cfg.peerTakeover = false → exec (.takeover p h (portCode p.peer)) s =
        .next (answer p h.ref noFlags .refused (.takeover (portCode p.peer) 0) s)) ∧
      (s.port p = .enrolled → s.cfg.peerTakeover = true →
        (s.port p.peer = .fenced → (s.tc.records.get p.peer).stage ≠ .closed →
          exec (.takeover p h (portCode p.peer)) s =
            .next (answer p h.ref noFlags .busy (.takeover (portCode p.peer) 0) s)) ∧
        (s.port p.peer = .fenced → (s.tc.records.get p.peer).stage = .closed →
          exec (.takeover p h (portCode p.peer)) s =
            .next (answer p h.ref noFlags .done (.takeover (portCode p.peer) 0) s)) ∧
        (∀ t : State, s.port p.peer ≠ .fenced → t = fencePort p.peer .peerRequest s →
          exec (.takeover p h (portCode p.peer)) s =
            .next (answer p h.ref noFlags .done (.takeover (portCode p.peer) (t.tc.records.get p.peer).setId) t)))) ∧
    (s.mi.answer.status ≠ .pending →
      (∀ code : Byte, code = 0#8 ∨ 2#8 < code →
        exec (.fencePort seq code) s = .next (finish seq 5#8 .invalid noMiFlags [0, 0, 0] s)) ∧
      (s.port p = .fenced →
        exec (.fencePort seq (portCode p)) s =
          .next (finish seq 5#8 (if (s.tc.records.get p).stage = .closed then .done else .busy) noMiFlags
            [portCode p, 0, 0] s)) ∧
      (∀ t : State, s.port p ≠ .fenced → t = fencePort p .admin s →
        exec (.fencePort seq (portCode p)) s =
          .next (finish seq 5#8 .done noMiFlags (portCode p :: leBytes 2 (t.tc.records.get p).setId.toNat) t)))) ∧
  (∀ (p : Port) (seq : Byte) (s : State), Quiet s → s.ic.bridge = .starting → s.mi.answer.status ≠ .pending →
    (∀ code : Byte, code = 0#8 ∨ 2#8 < code →
      exec (.fencePort seq code) s = .next (finish seq 5#8 .invalid noMiFlags [0, 0, 0] s)) ∧
    exec (.fencePort seq (portCode p)) s = .next (finish seq 5#8 .notReady noMiFlags [portCode p, 0, 0] s))

/-- R133: the confirm timer of a SUSPECT port expires, and the port is judged by its peer's state, the peer's view and
the auto takeover setting. R142, R138: the park timer fences a PARKING port; the start window fences a port that owns
extents, is OFFLINE or LINKED and has an ENROLLED peer under auto takeover, and leaves every other as it is. R142, R163: the
expiry of the park timer fences also while the report that its port is clear is due, which the model then takes
afterwards (log 41); a timer that the report has stopped does nothing. -/
def Obligations.TimersFence : Prop :=
  (∀ (p : Port) (s c : State), Quiet s → (s.sup.get p).confirm.isSome = true → s.port p = .suspect →
     c = s.onSup p (fun u => { u with confirm := none, confirmed := true }) →
     (s.port p.peer ≠ .enrolled → exec (.confirmTimerExpiry p) s = .next c) ∧
     (s.port p.peer = .enrolled →
       ((s.plu.get p.peer).settled.view = .seen → exec (.confirmTimerExpiry p) s = .next (setPort p .held c)) ∧
       ((s.plu.get p.peer).settled.view ≠ .seen → s.cfg.autoTakeover = false →
         exec (.confirmTimerExpiry p) s = .next c) ∧
       ((s.plu.get p.peer).settled.view ≠ .seen → s.cfg.autoTakeover = true →
         exec (.confirmTimerExpiry p) s = .next (fencePort p .liveness c)))) ∧
  (∀ (p : Port) (s : State), Quiet s →
     ((s.sup.get p).park.isSome = true → s.port p = .parking →
       exec (.parkTimerExpiry p) s = .next (fencePort p .parkTimeout s)) ∧
     (s.startWindow.isSome = true →
       (s.port p = .offline ∨ s.port p = .linked → s.oc.owns p = true → s.port p.peer = .enrolled →
         s.cfg.autoTakeover = true →
         exec .startWindowExpiry s = .next (fencePort p .absent { s with startWindow := none })) ∧
       ((∀ q : Port, ¬((s.port q = .offline ∨ s.port q = .linked) ∧ s.oc.owns q = true ∧ s.port q.peer = .enrolled ∧
           s.cfg.autoTakeover = true)) →
         exec .startWindowExpiry s = .next { s with startWindow := none }))) ∧
  (∀ (p : Port) (s : State), nextDueHolding (some p) s = none →
     ((s.sup.get p).park.isSome = true → s.port p = .parking →
       exec (.parkTimerExpiry p) s = .next (fencePort p .parkTimeout s)) ∧
     ((s.sup.get p).park = none → exec (.parkTimerExpiry p) s = .next s))

/-- R72, R148: the deadline of a claim in ASKING closes it TIMED_OUT; the drain timer asks for an abort of every entry of
the port whose abort is not sent; the ABORTs go to the drive in table order (log 37). -/
def Obligations.DeadlinesExpire : Prop :=
  (∀ (s : State) (c : Claim), Quiet s → s.oc.findClaim c.id = some c → c.state = .asking → c.deadline.isSome = true →
    exec (.claimDeadlineExpiry c.id) s = .next { s with
      plu := s.plu.set c.claimant ((s.plu.get c.claimant).handOver
        (.answer c.ref noFlags .timedOut (.claim c.id s.oc.emap))),
      oc := { s.oc with
        claims := s.oc.claims.filter fun d => d.id ≠ c.id,
        extents := s.oc.extents.map fun e => if e.claim = some c.id then { e with claim := none } else e } }) ∧
  ∀ (p : Port) (s : State), Quiet s → (s.tc.records.get p).drain.isSome = true →
    exec (.drainTimerExpiry p) s = .next { s with
      tc := { s.tc with records := s.tc.records.set p { s.tc.records.get p with drain := none } },
      dct := { s.dct with
        out := s.dct.out ++ (s.dct.entries.filter fun e => e.origin = .server p ∧ e.abort = none).map fun e =>
          DriveMsg.abort e.tag,
        entries := s.dct.entries.map fun e =>
          if e.origin = .server p ∧ e.abort = none then { e with cmdTimer := none, abort := some s.cfg.tAbt } else e } }

/-- R159: INTENT READ, from any port in any port state: id 0, the bridge STARTING, no set of the id, a set with an entry still
OPEN, and else the entries in issue order; nothing but the answer changes. That id 0 is answered INVALID while STARTING too
is log 13, and that RETRY carries the fenced port is log 14. -/
def Obligations.IntentSetRead : Prop :=
  ∀ (p : Port) (h : Header) (setId : Word) (s : State), Quiet s → h.length = 8#16 →
    (setId = 0 → exec (.intentRead p h setId) s = .next (answer p h.ref noFlags .invalid (.intentRead setId none []) s)) ∧
    (setId ≠ 0 → s.ic.bridge = .starting →
      exec (.intentRead p h setId) s = .next (answer p h.ref noFlags .notReady (.intentRead setId none []) s)) ∧
    (setId ≠ 0 → s.ic.bridge ≠ .starting →
      ((∀ x ∈ s.tc.intents, x.setId ≠ setId) →
        exec (.intentRead p h setId) s = .next (answer p h.ref noFlags .notFound (.intentRead setId none []) s)) ∧
      (∀ x : IntentSet, s.tc.intents.find? (fun y => y.setId = setId) = some x →
        ((∃ e ∈ x.entries, e.outcome = .notYet) →
          exec (.intentRead p h setId) s =
            .next (answer p h.ref noFlags .retry (.intentRead setId (some x.port) []) s)) ∧
        ((∀ e ∈ x.entries, e.outcome ≠ .notYet) →
          exec (.intentRead p h setId) s =
            .next (answer p h.ref noFlags .done (.intentRead setId (some x.port) x.entries) s))))

/-- R29, R160: INTENT CLEAR; the set is removed with all its entries, open ones too, an outcome that comes later is ignored,
and the place is free. That id 0 is answered INVALID while STARTING too is log 13. -/
def Obligations.IntentSetCleared : Prop :=
  ∀ (p : Port) (h : Header) (setId : Word) (s : State), Quiet s → h.length = 8#16 →
    (setId = 0 → exec (.intentClear p h setId) s = .next (answer p h.ref noFlags .invalid (.intentClear setId) s)) ∧
    (setId ≠ 0 → s.ic.bridge = .starting →
      exec (.intentClear p h setId) s = .next (answer p h.ref noFlags .notReady (.intentClear setId) s)) ∧
    (setId ≠ 0 → s.ic.bridge ≠ .starting →
      (s.port p ≠ .enrolled →
        exec (.intentClear p h setId) s = .next (answer p h.ref noFlags .notEnrolled (.intentClear setId) s)) ∧
      (s.port p = .enrolled → (∀ x ∈ s.tc.intents, x.setId ≠ setId) →
        exec (.intentClear p h setId) s = .next (answer p h.ref noFlags .notFound (.intentClear setId) s)) ∧
      (s.port p = .enrolled → (∃ x ∈ s.tc.intents, x.setId = setId) →
        ∃ t : State, exec (.intentClear p h setId) s = .next t ∧
          t = answer p h.ref noFlags .done (.intentClear setId)
            { s with tc := { s.tc with intents := s.tc.intents.filter fun x => x.setId ≠ setId } } ∧
          (∀ (seq : BitVec 64) (o : IntentOutcome), takeOutcome setId seq o t = t) ∧
          (s.tc.intents.length ≤ 2 → discardOldest t = t)))

/-- R19, R34, R57: MAP QUERY clears the handover pending flag and is answered NOT_READY without a geometry, INVALID at
or beyond E, and else DONE with the records from f, CLAMPED when fewer than n are served. R33: STATE QUERY is answered
DONE in every bridge state and every port state, with the values current, and changes nothing else. -/
def Obligations.QueriesServed : Prop :=
  (∀ (p : Port) (h : Header) (f n : Word) (s c : State) (m : Nat), Quiet s → h.length = 10#16 → f ≤ 1023#16 → n ≠ 0 →
     c = s.onPlu p (fun u => { u with handover := false }) → m = min (min n.toNat 256) (s.oc.extents.length - f.toNat) →
     (s.ic.bridge = .starting ∨ s.oc.extents = [] →
       exec (.mapQuery p h f n) s = .next (answer p h.ref noFlags .notReady (.mapQuery ⟨s.oc.emap, 0, 0, 0, 0, []⟩) c)) ∧
     (s.ic.bridge ≠ .starting → s.oc.extents ≠ [] →
       (s.oc.extents.length ≤ f.toNat →
         exec (.mapQuery p h f n) s =
           .next (answer p h.ref noFlags .invalid (.mapQuery ⟨s.oc.emap, 0, 0, 0, 0, []⟩) c)) ∧
       (f.toNat < s.oc.extents.length →
         exec (.mapQuery p h f n) s =
           .next (answer p h.ref ⟨false, m < n.toNat, false, false⟩ .done
             (.mapQuery ⟨s.oc.emap, s.oc.shift, s.oc.extents.length, s.oc.visible, f.toNat,
               ((s.oc.extents.drop f.toNat).take m).map fun e => ⟨e.owner, e.policy, e.mark, e.claim.getD 0, e.epoch⟩⟩) c)))) ∧
  (∀ (p : Port) (h : Header) (s : State) (v : StateView), Quiet s → h.length = 6#16 →
     v = { bridge := s.ic.bridge,
           orphan := s.port .a ≠ .enrolled ∧ s.port .b ≠ .enrolled ∧ (s.port .a = .fenced ∨ s.port .b = .fenced),
           own := s.port p, cause := (s.sup.get p).cause, peer := s.port p.peer,
           ownStage := (s.tc.records.get p).stage, peerStage := (s.tc.records.get p.peer).stage,
           identity := (s.sup.get p).identity, drive := s.dct.drive, depth := s.dct.depth,
           block := (match s.dct.firstAttach with | none => 0 | some x => x.2),
           visible := s.oc.visible, shift := s.oc.shift, extents := s.oc.extents.length, epoch := s.oc.emap,
           claim := ((s.oc.claims.find? fun c => c.claimant = p).map fun c => c.id).getD 0,
           handover := (s.plu.get p).handover,
           sets := s.tc.intents.map fun x =>
             ⟨x.setId, x.port, x.entries.length, (x.entries.filter fun e => e.outcome = .notYet).length⟩,
           imageFault := s.ic.imageFault } →
     exec (.stateQuery p h) s = .next (answer p h.ref noFlags .done (.stateQuery v) s))

/-! ### The management line (chapter 10) -/

/-- R181, R183, R189: READ STATE, READ CONFIG and READ EVENTS are answered DONE at once in every bridge state; READ
EVENTS empties the event set, and ALERT is then released; a malformed record is answered INVALID under its sequence
number, with a body of zeros for a kind of wrong length (log 24). R181: a request that comes while the answer record is
PENDING is not taken, and changes nothing. R182, R183: the body of READ STATE field by field, in the order listed, with
the codes; the guarantees and the window length in force are 0 before the first window (log 11), and a destination not yet
chosen is FFh (R182). R181, R182: the bytes that a read transaction returns, and the command that the bytes of a write
transaction carry. -/
def Obligations.ManagementReads : Prop :=
  (∀ (seq : Byte) (s : State), Quiet s → s.mi.answer.status ≠ .pending →
     exec (.readState seq) s = .next { s with mi := { s.mi with
       answer := ⟨seq, 1#8, .final .done, ⟨false, false, false⟩, s.readStateBody⟩ } } ∧
     s.readStateBody.length = 96 ∧ (s.alertLow = true ↔ s.mi.events ≠ 0#16) ∧
     exec (.readConfig seq) s = .next { s with mi := { s.mi with
       answer := ⟨seq, 3#8, .final .done, ⟨false, false, false⟩, configBytes (rawOfSettings s.mi.settings)⟩ } } ∧
     (∃ t : State, exec (.readEvents seq) s = .next t ∧ t.alertLow = false ∧
       t = { s with mi := { s.mi with
         events := 0,
         answer := ⟨seq, 2#8, .final .done, ⟨false, false, false⟩, leBytes 2 s.mi.events.toNat⟩ } }) ∧
     (∀ (kind : Byte) (rest : List Byte), recordLength kind ≠ some (rest.length + 2) →
       exec (.malformedRecord (kind :: seq :: rest)) s = .next { s with mi := { s.mi with
         answer := ⟨seq, kind, .final .invalid, ⟨false, false, false⟩, zeroBody kind⟩ } }) ∧
     (∀ b : Byte, exec (.malformedRecord [b]) s = .next s) ∧ exec (.malformedRecord []) s = .next s) ∧
  (∀ (seq port : Byte) (r : RawConfig) (bytes : List Byte) (s : State), Quiet s → s.mi.answer.status = .pending →
     exec (.readState seq) s = .next s ∧ exec (.readEvents seq) s = .next s ∧ exec (.readConfig seq) s = .next s ∧
     exec (.writeConfig seq r) s = .next s ∧ exec (.fencePort seq port) s = .next s ∧ exec (.clearMap seq) s = .next s ∧
     exec (.malformedRecord bytes) s = .next s) ∧
  (∀ (s : State) (fields : Port → List Byte) (count : Origin → Nat) (sets : List (List Byte)) (n : Nat),
     (∀ p : Port, fields p =
       [if (s.plu.get p).align = .down then 0 else 1, (s.plu.get p).align.code, if (s.plu.get p).degraded then 1 else 0] ++
       leBytes 1 (s.plu.get p).shiftCount.toNat ++ leBytes 2 (s.plu.get p).damaged.toNat ++
       leBytes 2 (s.plu.get p).linkLoss.toNat ++ leBytes 2 (s.plu.get p).outDiscard.toNat ++
       [(s.port p).code, (s.sup.get p).cause.code] ++ leBytes 2 (s.sup.get p).identity.toNat ++
       leBytes 2 (s.oc.ownerId.get p).toNat ++
       [(s.tc.records.get p).stage.code,
        match (s.tc.records.get p).cause with | none => 0 | some c => c.code] ++
       leBytes 2 (s.tc.records.get p).setId.toNat ++
       [match (s.tc.records.get p).dest with | none => 0xFF | some none => 0 | some (some q) => portCode q,
        match s.tc.parks.get p with
        | none => 0
        | some r => match r.stage with | .queue => 1 | .drive => 2 | .transfer => 3 | .persist => 4] ++
       leBytes 1 (s.au.queue.get p).length ++ leBytes 1 (s.au.depth.get p) ++ leBytes 1 (s.au.granted.get p) ++
       leBytes 1 (match s.au.window with | none => 0 | some w => w.guar.get p)) →
     (∀ o : Origin, count o = (s.dct.entries.filter fun e => e.origin = o).length) →
     n = s.tc.intents.length →
     sets = (s.tc.intents.map fun x =>
       leBytes 2 x.setId.toNat ++ [portCode x.port] ++ leBytes 1 x.entries.length ++
         leBytes 1 (x.entries.filter fun e => e.outcome = .notYet).length) →
     s.readStateBody =
       [s.ic.bridge.code,
        if s.port .a ≠ .enrolled ∧ s.port .b ≠ .enrolled ∧ (s.port .a = .fenced ∨ s.port .b = .fenced) then 1 else 0] ++
       leBytes 1 s.oc.shift ++ leBytes 2 s.oc.extents.length ++ leBytes 6 s.oc.visible ++ leBytes 4 s.oc.emap.toNat ++
       [s.dct.drive.code] ++ leBytes 1 s.dct.depth ++
       leBytes 2 (match s.dct.firstAttach with | none => 0 | some x => x.2) ++
       leBytes 1 (count (.server .a)) ++ leBytes 1 (count (.server .b)) ++ leBytes 1 (count .bridge) ++
       ([match s.ic.cycle with | .idle => 0 | .writing => 1 | .flushing => 2] : List Byte) ++ leBytes 4 s.ic.generation.toNat ++
       leBytes 1 s.ic.attempt ++ ([if s.ic.imageFault then 1 else 0] : List Byte) ++ fields .a ++ fields .b ++
       leBytes 1 s.au.w ++ leBytes 1 (match s.au.window with | none => 0 | some w => w.length) ++ [portCode s.au.last] ++
       leBytes 1 n ++ sets.getD 0 [0, 0, 0, 0, 0] ++ sets.getD 1 [0, 0, 0, 0, 0] ++ leBytes 1 s.tc.discards.toNat) ∧
  (∀ (s : State) (a : AnswerRecord), a = s.mi.answer →
     s.readRecord =
       [a.seq, a.kind, (match a.status with | .pending => 0xFF | .final r => r.code),
        (if a.flags.notDurable then 1 else 0) + (if a.flags.clamped then 2 else 0) + (if a.flags.held then 4 else 0)] ++
       leBytes 2 a.body.length ++ a.body) ∧
  (∀ (seq kind port : Byte) (r : RawConfig) (bytes rest : List Byte),
     commandOfRecord [0x01, seq] = .readState seq ∧ commandOfRecord [0x02, seq] = .readEvents seq ∧
     commandOfRecord [0x03, seq] = .readConfig seq ∧
     commandOfRecord ([0x04, seq] ++ configBytes r) = .writeConfig seq r ∧
     commandOfRecord [0x05, seq, port] = .fencePort seq port ∧ commandOfRecord [0x06, seq] = .clearMap seq ∧
     commandOfRecord [0x07, seq] = .restart seq ∧
     (bytes.length < 2 → commandOfRecord bytes = .malformedRecord bytes) ∧
     (recordLength kind ≠ some (rest.length + 2) →
       commandOfRecord (kind :: seq :: rest) = .malformedRecord (kind :: seq :: rest))) ∧
  (([Bridge.starting, .recovery, .service, .halted].map Bridge.code = [0, 1, 2, 3]) ∧
   ([PortState.offline, .linked, .enrolled, .suspect, .held, .parking, .parked, .fenced].map PortState.code =
     [0, 1, 2, 3, 4, 5, 6, 7]) ∧
   ([Drive.absent, .attaching, .ready, .resetting, .lost].map Drive.code = [0, 1, 2, 3, 4]) ∧
   ([Align.down, .aligned, .losing].map Align.code = [0, 1, 2]) ∧ ([Cause.none, .link, .stall].map Cause.code = [0, 1, 2]) ∧
   ([TakeoverStage.closed, .fence, .drain, .transfer, .persist].map TakeoverStage.code = [0, 1, 2, 3, 4]) ∧
   ([FenceCause.liveness, .self, .restart, .identity, .parkTimeout, .peerRequest, .admin, .absent].map FenceCause.code =
     [1, 2, 3, 4, 5, 6, 7, 8]) ∧ portCode .a = 1 ∧ portCode .b = 2 ∧
   ([AnsResult.done, .granted, .denied, .timedOut, .late, .conflict, .busy, .retry, .notFound, .notEnrolled, .notReady,
      .notOwner, .invalid, .cancelled, .refused, .exhausted].map AnsResult.code =
     [0, 1, 2, 3, 4, 5, 6, 7, 8, 9, 10, 11, 12, 13, 14, 15]) ∧
   ([1, 2, 3, 4, 5, 6, 7].map recordLength = [some 2, some 2, some 2, some 32, some 3, some 2, some 2]))

/-- R184: every setting of a record as it is brought into range is in its range and on its step. Each number is clamped,
T_ll and T_cf are lowered to their steps, an undefined code becomes the default, and the guarantees are brought into W
and then under it. Settings that are in range and on their steps come through a record unchanged, and the record is
CLAMPED exactly when some field of it was out of range, off its step, undefined or over W. R182: a record's bytes are
read back as its fields. -/
def Obligations.SettingsInRange : Prop :=
  (∀ (r : RawConfig) (x : Settings), x = settingsOfRaw r →
    8 ≤ x.kReq ∧ x.kReq ≤ 30 ∧ 8 ≤ x.window ∧ x.window ≤ 64 ∧ x.guar.a + x.guar.b ≤ x.window ∧
    (x.depth = 8 ∨ x.depth = 16) ∧ 1 ≤ x.threshold ∧ x.threshold ≤ 1000 ∧ 8 ≤ x.tLl ∧ x.tLl ≤ 504 ∧ x.tLl % 8 = 0 ∧
    (x.settleCount = 2 ∨ x.settleCount = 3) ∧ 100 ≤ x.stallLimit ∧ x.stallLimit ≤ 65000 ∧ 100 ≤ x.tCf ∧
    x.tCf ≤ 30000 ∧ x.tCf % 100 = 0 ∧ 500 ≤ x.tDrn ∧ x.tDrn ≤ 30000 ∧ 1 ≤ x.tPk ∧ x.tPk ≤ 60 ∧ 1 ≤ x.tCmd ∧
    x.tCmd ≤ 120 ∧ 500 ≤ x.tAbt ∧ x.tAbt ≤ 10000 ∧ 100 ≤ x.tRel ∧ x.tRel ≤ 10000 ∧ 5 ≤ x.tSw ∧ x.tSw ≤ 600) ∧
  (∀ r : RawConfig, settingsOfRaw (rawOfSettings (settingsOfRaw r)) = settingsOfRaw r) ∧
  (∀ r : RawConfig, configOfBytes (configBytes r) = r ∧ (configBytes r).length = 30) ∧
  (∀ x : Settings, x.InRange → settingsOfRaw (rawOfSettings x) = x ∧ rawClamped (rawOfSettings x) = false) ∧
  (∀ (r : RawConfig) (x : Settings), x = settingsOfRaw r →
    (x.kReq = max 8 (min 30 r.kReq.toNat) ∧ x.window = max 8 (min 64 r.window.toNat) ∧
      x.threshold = max 1 (min 1000 r.threshold.toNat) ∧ x.stallLimit = max 100 (min 65000 r.stallLimit.toNat) ∧
      x.tDrn = max 500 (min 30000 r.tDrn.toNat) ∧ x.tPk = max 1 (min 60 r.tPk.toNat) ∧
      x.tCmd = max 1 (min 120 r.tCmd.toNat) ∧ x.tAbt = max 500 (min 10000 r.tAbt.toNat) ∧
      x.tRel = max 100 (min 10000 r.tRel.toNat) ∧ x.tSw = max 5 (min 600 r.tSw.toNat)) ∧
    ((r.tLl.toNat < 8 → x.tLl = 8) ∧ (504 < r.tLl.toNat → x.tLl = 504) ∧
      (8 ≤ r.tLl.toNat → r.tLl.toNat ≤ 504 → x.tLl = r.tLl.toNat / 8 * 8) ∧
      (r.tCf.toNat < 100 → x.tCf = 100) ∧ (30000 < r.tCf.toNat → x.tCf = 30000) ∧
      (100 ≤ r.tCf.toNat → r.tCf.toNat ≤ 30000 → x.tCf = r.tCf.toNat / 100 * 100)) ∧
    (x.depth = (if r.depth = 8#8 then 8 else 16) ∧ x.settleCount = (if r.settleCount = 3#8 then 3 else 2) ∧
      x.criterion = (if r.criterion = 0#8 then .twoOfFour else if r.criterion = 2#8 then .fiveOfSixteen else .threeOfEight) ∧
      x.action = (if r.action = 1#8 then .research else .report) ∧
      x.autoTakeover = (if r.autoTakeover = 0#8 then false else true) ∧
      x.peerTakeover = (if r.peerTakeover = 0#8 then false else true) ∧
      x.destination = (if r.destination = 1#8 then .none else .survivor) ∧
      x.fenceMode = (if r.fenceMode = 1#8 then .abort else .drain)) ∧
    (x.guar.a = min r.guarA.toNat x.window ∧
      x.guar.b = (if x.window < x.guar.a + min r.guarB.toNat x.window then x.window - x.guar.a
        else min r.guarB.toNat x.window)) ∧
    (rawClamped r = true ↔ rawOfSettings x ≠ r) ∧
    (rawClamped r = false ↔
      (8 ≤ r.kReq.toNat ∧ r.kReq.toNat ≤ 30 ∧ 8 ≤ r.window.toNat ∧ r.window.toNat ≤ 64 ∧
        r.guarA.toNat + r.guarB.toNat ≤ r.window.toNat ∧ (r.depth = 8#8 ∨ r.depth = 16#8) ∧ r.criterion ≤ 2#8) ∧
      (1 ≤ r.threshold.toNat ∧ r.threshold.toNat ≤ 1000 ∧ r.action ≤ 1#8 ∧ 8 ≤ r.tLl.toNat ∧ r.tLl.toNat ≤ 504 ∧
        r.tLl.toNat % 8 = 0 ∧ (r.settleCount = 2#8 ∨ r.settleCount = 3#8) ∧ 100 ≤ r.stallLimit.toNat ∧
        r.stallLimit.toNat ≤ 65000 ∧ 100 ≤ r.tCf.toNat ∧ r.tCf.toNat ≤ 30000 ∧ r.tCf.toNat % 100 = 0) ∧
      (r.autoTakeover ≤ 1#8 ∧ r.peerTakeover ≤ 1#8 ∧ r.destination ≤ 1#8 ∧ r.fenceMode ≤ 1#8) ∧
      (500 ≤ r.tDrn.toNat ∧ r.tDrn.toNat ≤ 30000 ∧ 1 ≤ r.tPk.toNat ∧ r.tPk.toNat ≤ 60 ∧ 1 ≤ r.tCmd.toNat ∧
        r.tCmd.toNat ≤ 120 ∧ 500 ≤ r.tAbt.toNat ∧ r.tAbt.toNat ≤ 10000 ∧ 100 ≤ r.tRel.toNat ∧
        r.tRel.toNat ≤ 10000 ∧ 5 ≤ r.tSw.toNat ∧ r.tSw.toNat ≤ 600)))

/-- R185, R55, R81, R133: WRITE CONFIG: NOT_READY while STARTING; else the record brought into range replaces the working
record, its k_req held back while the geometry is not free, a ticket is taken and the answer is PENDING until it is served.
A changed k_req rebuilds the table and the spans of the queues, a queue that holds no more records than the new depth takes
it, and a changed auto takeover setting has both ports judged again. The flags are clear while the answer is PENDING (log 24),
and one ticket is taken, also for a record that rebuilds the table (log 39). -/
def Obligations.ConfigReplaced : Prop :=
  ∀ (seq : Byte) (r : RawConfig) (s : State) (x : Settings) (held : Bool), Quiet s → s.mi.answer.status ≠ .pending →
    x = settingsOfRaw r → held = s.geometryHeld x.kReq →
    (held = true ↔ x.kReq ≠ s.mi.settings.kReq ∧ s.oc.extents ≠ [] ∧
      ((∃ e ∈ s.oc.extents, e.owner ≠ none ∨ e.mark ≠ none) ∨ s.oc.steps ≠ [] ∨ s.oc.claims ≠ [])) ∧
    (s.ic.bridge = .starting → exec (.writeConfig seq r) s = .next { s with mi := { s.mi with
      answer := ⟨seq, 4#8, .final .notReady, ⟨false, false, false⟩, []⟩ } }) ∧
    (s.ic.bridge ≠ .starting →
      ∃ t : State,
        exec (.writeConfig seq r) s =
          .next (if x.autoTakeover = s.mi.settings.autoTakeover then t else judge .b (judge .a t)) ∧
        t = { s with oc := t.oc, au := { s.au with queue := t.au.queue, depth := t.au.depth }, ic := t.ic, mi := t.mi } ∧
        t.mi.settings = (if held then { x with kReq := s.mi.settings.kReq } else x) ∧
        t.mi.answer = ⟨seq, 4#8, .pending, ⟨false, false, false⟩, []⟩ ∧
        (∀ p : Port, t.au.depth.get p =
          if s.au.depth.get p ≠ 0 ∧ (s.au.queue.get p).length ≤ x.depth then x.depth else s.au.depth.get p) ∧
        (x.kReq = s.mi.settings.kReq ∨ held = true ∨ s.oc.extents = [] →
          t.oc = s.oc ∧ t.au.queue = s.au.queue ∧ t.mi.events = s.mi.events) ∧
        (x.kReq ≠ s.mi.settings.kReq → held = false → s.oc.extents ≠ [] →
          t.oc = { s.oc with
            shift := shiftOf s.oc.visible x.kReq,
            extents := List.replicate (extentsOf s.oc.visible (shiftOf s.oc.visible x.kReq))
              ⟨none, .shared, s.oc.emap, 0, none, none⟩ } ∧
          (∀ p : Port, t.au.queue.get p = (s.au.queue.get p).map fun q => { q with
            range := q.range.map fun y => ⟨y.lba, y.count, y.lba.toNat / 2 ^ t.oc.shift,
              (y.lba.toNat + y.count.toNat - 1) / 2 ^ t.oc.shift⟩ }) ∧
          t.mi.events = (if x.kReq < t.oc.shift then s.mi.events ||| 128#16 else s.mi.events)) ∧
        (s.ic.bridge = .halted →
          t.ic = { s.ic with served := s.ic.served ++ [⟨.config (rawClamped r) held, false⟩] }) ∧
        (s.ic.bridge ≠ .halted → s.ic.cycle = .idle → t.ic = { s.ic with
          tickets := s.ic.tickets ++ [⟨s.ic.generation + 1, .config (rawClamped r) held⟩], beginDue := true }) ∧
        (s.ic.bridge ≠ .halted → s.ic.cycle ≠ .idle → t.ic = { s.ic with
          tickets := s.ic.tickets ++ [⟨s.ic.generation + 1, .config (rawClamped r) held⟩], dirty := true }))

/-- R187: CLEAR MAP: NOT_READY without a geometry, REFUSED while a port is in service, a takeover is open or a claim is
open, and else a CLEAR step, the answer PENDING until its release. The zeros in the body beside NOT_READY and REFUSED, and the
flags clear while PENDING, are log 24. -/
def Obligations.ClearMapServed : Prop :=
  ∀ (seq : Byte) (s : State), Quiet s → s.mi.answer.status ≠ .pending →
    (s.ic.bridge = .starting ∨ s.oc.extents = [] →
      exec (.clearMap seq) s = .next (finish seq 6#8 .notReady noMiFlags [0, 0, 0, 0, 0, 0] s)) ∧
    (s.ic.bridge ≠ .starting → s.oc.extents ≠ [] →
      ((∃ p : Port, s.port p = .enrolled ∨ s.port p = .suspect ∨ s.port p = .held ∨ s.port p = .parking ∨
          (s.tc.records.get p).stage ≠ .closed) ∨ s.oc.claims ≠ [] →
        exec (.clearMap seq) s = .next (finish seq 6#8 .refused noMiFlags [0, 0, 0, 0, 0, 0] s)) ∧
      ((∀ p : Port, s.port p ≠ .enrolled ∧ s.port p ≠ .suspect ∧ s.port p ≠ .held ∧ s.port p ≠ .parking ∧
          (s.tc.records.get p).stage = .closed) → s.oc.claims = [] →
        exec (.clearMap seq) s = .next (requestStep .clear none none { s with mi := { s.mi with
          answer := ⟨seq, 6#8, .pending, ⟨false, false, false⟩, []⟩ } })))

/-! ### The drive port and the image (chapters 6 and 9) -/

/-- R100, R102: attach attempts: begun when DV_PRSN goes low or the retry time has run out, ended by the attach answer
time or by DV_PRSN going high. R37, R101, R176: the identify answer of a supported drive makes the drive READY with D
and V taken and the image READ handed over; that of an unsupported drive makes it LOST and the bridge HALTED, from a
STARTING bridge with no queue, no claim and no cycle. -/
def Obligations.AttachServed : Prop :=
  (∀ s : State, Quiet s →
     (s.dct.drive = .absent → s.dct.prsnLow = false → s.dct.retryTimer = none →
       exec .dvPrsnLow s = .next { s with dct := { s.dct with
         prsnLow := true, drive := .attaching, attachTimer := some 10, out := s.dct.out ++ [.reset, .identify] } }) ∧
     (s.dct.drive = .absent → s.dct.retryTimer.isSome = true ∨ s.dct.prsnLow = true →
       exec .dvPrsnLow s = .next { s with dct := { s.dct with prsnLow := true } }) ∧
     (s.dct.drive ≠ .absent → exec .dvPrsnLow s = .next { s with dct := { s.dct with prsnLow := true } }) ∧
     (s.dct.drive = .absent → s.dct.retryTimer.isSome = true →
       (s.dct.prsnLow = true → exec .attachRetryTimeExpiry s = .next { s with dct := { s.dct with
         drive := .attaching, attachTimer := some 10, retryTimer := none, out := s.dct.out ++ [.reset, .identify] } }) ∧
       (s.dct.prsnLow = false →
         exec .attachRetryTimeExpiry s = .next { s with dct := { s.dct with retryTimer := none } })) ∧
     (s.dct.drive = .attaching → s.dct.attachTimer.isSome = true →
       exec .attachAnswerTimeExpiry s = .next { s with dct := { s.dct with
         drive := .absent, attachTimer := none, retryTimer := some 1 } }) ∧
     (s.dct.drive = .attaching → s.dct.prsnLow = true →
       exec .dvPrsnHigh s = .next { s with dct := { s.dct with
         prsnLow := false, drive := .absent, attachTimer := none, retryTimer := none } }) ∧
     (s.dct.drive ≠ .attaching → s.dct.drive ≠ .ready →
       exec .dvPrsnHigh s = .next { s with dct := { s.dct with prsnLow := false } }) ∧
     (∀ c b d : Nat, s.dct.drive = .absent → exec (.identifyAnswer c b d) s = .next s)) ∧
  (∀ (c b d : Nat) (s : State), Quiet s → s.dct.drive = .attaching →
     (1 ≤ d → b = 512 ∨ b = 4096 → 320 ≤ c → c - 64 ≤ 2 ^ 40 →
       exec (.identifyAnswer c b d) s = .next { s with
         dct := { s.dct with
           drive := .ready, attachTimer := none, firstAttach := some (c, b), depth := min d 32,
           bridgeWait := some .imageRead },
         oc := { s.oc with visible := c - 64 },
         ic := { s.ic with readBuf := [] } }) ∧
     (d = 0 ∨ (b ≠ 512 ∧ b ≠ 4096) ∨ c < 320 ∨ 2 ^ 40 < c - 64 →
       s.ic.bridge = .starting → (∀ p : Port, s.au.queue.get p = [] ∧ (s.plu.get p).align = .down) → s.oc.claims = [] →
       s.ic.tickets = [] →
       exec (.identifyAnswer c b d) s = .next { s with
         dct := { s.dct with
           drive := .lost, attachTimer := none, retryTimer := none, reattachTimer := none, bridgeWait := none },
         ic := { s.ic with bridge := .halted, dirty := false, attempt := 0, cycle := .idle, beginDue := false },
         mi := { s.mi with events := s.mi.events ||| 32#16 } }))

/-- R115: the answer of a re-attach attempt that matches the first attach makes the drive READY with the D reported;
the time of the first attempt begins the second. R115, R120, R180, R85, R75, R174: an answer that differs from the
first attach, and the end of the second attempt without one, give the drive up: LOST and HALTED, DRIVE_LOST raised,
both queues emptied with NOT_READY answers, and every waiting ticket served NOT_DURABLE. R75: after these answers,
an order that is the model's choice (log 45), the claimant of every claim that asks or waits is answered REFUSED with the
claim id and the map epoch, its record and its pending claim fields go, and a claim in TRANSFERRING stays (claim ids
differ, R69). -/
def Obligations.ReattachEnds : Prop :=
  (∀ (c b d : Nat) (s : State), Quiet s → s.dct.drive = .resetting → s.dct.reattachTimer.isSome = true →
     (s.dct.firstAttach = some (c, b) → 1 ≤ d →
       exec (.reattachIdentifyAnswer c b d) s = .next { s with dct := { s.dct with
         drive := .ready, depth := min d 32, reattachTimer := none, reattachNo := 0 } }) ∧
     (s.dct.reattachNo = 1 →
       exec .reattachTimeExpiry s = .next { s with dct := { s.dct with
         reattachTimer := some 5, reattachNo := 2, out := s.dct.out ++ [.reset, .identify] } })) ∧
  (∀ (c b d : Nat) (s : State), Quiet s → s.dct.drive = .resetting → s.dct.reattachTimer.isSome = true →
     ∃ t : State,
       (s.dct.firstAttach ≠ some (c, b) ∨ d = 0 → exec (.reattachIdentifyAnswer c b d) s = .next t) ∧
       (s.dct.reattachNo = 2 → exec .reattachTimeExpiry s = .next t) ∧
       t.dct = { s.dct with
         drive := .lost, attachTimer := none, retryTimer := none, reattachTimer := none, bridgeWait := none } ∧
       t.ic = { s.ic with
         bridge := .halted, served := s.ic.served ++ s.ic.tickets.map (fun k => ⟨k.taker, false⟩), tickets := [],
         dirty := false, attempt := 0, cycle := .idle, beginDue := false } ∧
       t.mi = { s.mi with events := s.mi.events ||| 32#16 } ∧
       t.au = { s.au with queue := ⟨[], []⟩ } ∧
       (∀ x ∈ t.oc.claims, x.state = .transferring) ∧ t.oc.emap = s.oc.emap ∧ t.oc.ownerId = s.oc.ownerId ∧
       t.oc.extents.map (fun e => (e.owner, e.policy, e.epoch, e.mark)) =
         s.oc.extents.map (fun e => (e.owner, e.policy, e.epoch, e.mark)) ∧
       t.tc = s.tc ∧ t.startWindow = s.startWindow ∧
       (s.oc.claims = [] → ∀ p : Port,
         t.plu.get p = (s.au.queue.get p).foldl (fun u q => u.handOver (.completion q.tag .notReady 0)) (s.plu.get p)) ∧
       t = { s with plu := t.plu, sup := t.sup, oc := t.oc, au := t.au, dct := t.dct, ic := t.ic, mi := t.mi } ∧
       (∀ p : Port,
         t.plu.get p =
           (s.oc.claims.filter fun x => x.claimant = p ∧ x.state ≠ .transferring).foldl
             (fun u x => u.handOver (.answer x.ref noFlags .refused (.claim x.id s.oc.emap)))
             ((s.au.queue.get p).foldl (fun u q => u.handOver (.completion q.tag .notReady 0)) (s.plu.get p)) ∧
         t.sup.get p =
           (if s.port p = .offline ∧ (s.plu.get p).align ≠ .down then { s.sup.get p with state := .linked }
            else s.sup.get p)) ∧
       ((s.oc.claims.map fun x => x.id).Nodup →
         t.oc = { s.oc with
           claims := s.oc.claims.filter fun x => x.state = .transferring,
           extents := s.oc.extents.map fun e =>
             if ∃ x ∈ s.oc.claims, x.state ≠ .transferring ∧ e.claim = some x.id then { e with claim := none }
             else e }))

/-- R108, R109, R112, R118: the result of an entry that ends by a completion or by an abort answer DONE goes by its origin
and its watched field; the entry leaves, its tag is free, and the counts of a WRITE's span go down. A READ whose
READ DATA has left the data list is answered at once. R27, R26: the COMPLETION of a READ whose READ DATA is still in the
list waits, its tag in use; it is handed over when the frame that places the last byte of that READ DATA has been built
(log 36), and not before. -/
def Obligations.EntryEnds : Prop :=
  (∀ (e : Entry) (status : DriveStatus) (detail : Word) (s : State) (p : Port), Quiet s → s.dct.find e.tag = some e →
    e.origin = .server p →
    (e.op = .read → ∀ m ∈ (s.plu.get p).dataList, ∀ tag off bs, m ≠ .readData e.seq tag off bs) →
    ∃ t u : State, exec (.driveCompletion e.tag status detail) s = .next t ∧
      (e.abort.isSome = true → exec (.abortAnswer e.tag true) s = .next u) ∧
      (∀ v : State, v = t ∨ v = u →
        v = { s with plu := v.plu, oc := { s.oc with extents := v.oc.extents },
                     dct := { s.dct with entries := s.dct.entries.filter fun f => f.tag ≠ e.tag }, tc := v.tc } ∧
        (∀ r : Range, e.op = .write → e.range = some r →
          v.oc.extents = s.oc.extents.mapIdx fun x y =>
            if r.f ≤ x ∧ x ≤ r.g then { y with inflight := y.inflight - 1 } else y) ∧
        (e.op ≠ .write → v.oc.extents = s.oc.extents) ∧
        (e.watched = none → v.tc = s.tc) ∧ (e.watched ≠ none → v.plu = s.plu) ∧
        (e.watched ≠ none → e.op ≠ .write → v.tc = s.tc)) ∧
      (e.watched = none →
        t.plu = s.plu.set p ((s.plu.get p).handOver (.completion e.serverTag
          (match status with | .good => .good | .error => .driveError)
          (match status with | .good => 0 | .error => detail))) ∧
        u.plu = s.plu.set p ((s.plu.get p).handOver (.completion e.serverTag .aborted 0))) ∧
      (∀ id : Word, e.watched = some id → e.op = .write →
        t.tc = (takeOutcome id e.seq (match status with | .good => .completed | .error => .failed detail) s).tc ∧
        u.tc = (takeOutcome id e.seq .aborted s).tc)) ∧
  (∀ (e : Entry) (status : DriveStatus) (detail : Word) (s : State) (p : Port), Quiet s →
     s.dct.find e.tag = some e → e.origin = .server p → e.op = .read → e.watched = none →
     (∃ tag off bs, DataMsg.readData e.seq tag off bs ∈ (s.plu.get p).dataList) →
     ∃ t u : State, exec (.driveCompletion e.tag status detail) s = .next t ∧
       (e.abort.isSome = true → exec (.abortAnswer e.tag true) s = .next u) ∧
       t = { s with
         plu := s.plu.set p { s.plu.get p with readDone := (s.plu.get p).readDone ++
           [⟨e.seq, true, e.serverTag, (match status with | .good => .good | .error => .driveError),
             (match status with | .good => 0 | .error => detail)⟩] },
         dct := { s.dct with entries := s.dct.entries.filter fun f => f.tag ≠ e.tag } } ∧
       u = { s with
         plu := s.plu.set p { s.plu.get p with readDone := (s.plu.get p).readDone ++
           [⟨e.seq, true, e.serverTag, .aborted, 0⟩] },
         dct := { s.dct with entries := s.dct.entries.filter fun f => f.tag ≠ e.tag } } ∧
       t.tagInUse p e.serverTag = true ∧ u.tagInUse p e.serverTag = true) ∧
  (∀ (p : Port) (s : State) (m : DataMsg) (seq : BitVec 64) (tag : Word) (off : BitVec 32) (bs : List Byte) (r : ReadDone)
     (k : Nat), Quiet s → m = .readData seq tag off bs → (s.plu.get p).dataList = [m] →
     (s.plu.get p).outQueue = [] → (s.plu.get p).readDone = [r] →
     ((s.plu.get p).tx = none ∧ k = 0) ∨ (s.plu.get p).tx = some (.data, k) →
     ∃ (t : State) (f : OutFrame), exec .frameSend s = .next t ∧ (t.plu.get p).lastFrame = some f ∧
       (m.bytes.length ≤ k + 1024 →
         f.payload = m.bytes.drop k ∧ (t.plu.get p).dataList = [] ∧ (t.plu.get p).readDone = [] ∧
         (t.plu.get p).outQueue = [.completion r.tag r.status r.detail]) ∧
       (k + 1024 < m.bytes.length → r.seq = seq →
         f.payload = (m.bytes.drop k).take 1024 ∧ (t.plu.get p).dataList = [m] ∧ (t.plu.get p).readDone = [r] ∧
         (t.plu.get p).outQueue = []))

/-- R107, R27, R98: read data for a READ that is not watched goes to its port, that of a watched READ is discarded,
that of the bridge READ goes to the Image Controller, and what names no entry is ignored, a completion and an abort
answer too. That it goes out at whatever offset it comes, and as one READ DATA whatever its size, is the model's
choice (logs 47 and 54). R111, R112: the command timer of an entry expires: ABORT is sent and T_abt started, once; an abort
answer NOT_FOUND, and one for an entry whose abort was not sent, is ignored. -/
def Obligations.ReadDataAndAborts : Prop :=
  (∀ (tag : Nat) (off : BitVec 32) (bytes : List Byte) (s : State), Quiet s →
     (∀ (e : Entry) (p : Port), s.dct.find tag = some e → e.op = .read → e.origin = .server p →
       (e.watched = none → (∀ m ∈ (s.plu.get p).dataList, ∀ y o bs, m ≠ .readData e.seq y o bs) →
         exec (.driveReadData tag off bytes) s = .next { s with plu := s.plu.set p { s.plu.get p with
           dataList := (s.plu.get p).dataList ++ [.readData e.seq e.serverTag off bytes] } }) ∧
       (e.watched ≠ none → exec (.driveReadData tag off bytes) s = .next s)) ∧
     (∀ e : Entry, s.dct.find tag = some e → e.op = .read → e.origin = .bridge → s.ic.readBuf.length = off.toNat →
       off.toNat + bytes.length ≤ imageBlocks s.blockSize * s.blockSize → bytes ≠ [] →
       exec (.driveReadData tag off bytes) s = .next { s with ic := { s.ic with readBuf := s.ic.readBuf ++ bytes } }) ∧
     (s.dct.find tag = none → exec (.driveReadData tag off bytes) s = .next s ∧
       (∀ st d, exec (.driveCompletion tag st d) s = .next s) ∧ (∀ done, exec (.abortAnswer tag done) s = .next s))) ∧
  (∀ (e : Entry) (done : Bool) (s : State), Quiet s → s.dct.find e.tag = some e →
     (e.cmdTimer.isSome = true → e.abort = none → ∃ t : State, exec (.commandTimerExpiry e.tag) s = .next t ∧
       t = { s with dct := { s.dct with
         out := s.dct.out ++ [.abort e.tag],
         entries := s.dct.entries.map fun f =>
           if f.tag = e.tag then { f with cmdTimer := none, abort := some s.cfg.tAbt } else f } } ∧
       exec (.commandTimerExpiry e.tag) t = .next t) ∧
     (done = false ∨ e.abort = none → exec (.abortAnswer e.tag done) s = .next s))

/-- R113, R114, R173: T_abt of an entry expires, or DV_PRSN goes high while the drive is READY: the drive reset ends every
entry and every in-flight count, raises DRIVE_RESET and begins the first re-attach attempt; queues, port states, owners,
claims and takeover records stay. An unwatched command is answered DRIVE_RESET, a watched WRITE gives LOST_IN_RESET, and
an image attempt fails. R114, R26, R27: over a table of any entries, each port gets its answers in table order (log 18),
that of a READ whose READ DATA is still in the data list when the last of it has been placed; the tags of all of them are
free (log 40); each watched WRITE gives its outcome. R178: a reset that ends the image READ takes the part to RECOVERY. -/
def Obligations.DriveResetStarted : Prop :=
  (∀ s : State, Quiet s →
    ((∀ e ∈ s.dct.entries, e.origin ≠ .bridge) →
      ∃ t : State,
        (∀ e : Entry, s.dct.find e.tag = some e → e.abort.isSome = true → exec (.abortTimerExpiry e.tag) s = .next t) ∧
        (s.dct.drive = .ready → s.dct.prsnLow = true →
          exec .dvPrsnHigh s = .next { t with dct := { t.dct with prsnLow := false } }) ∧
        t.dct = { s.dct with
          entries := [], drive := .resetting, reattachTimer := some 5, reattachNo := 1,
          out := s.dct.out ++ [.reset, .identify] } ∧
        t.mi = { s.mi with events := s.mi.events ||| 16#16 } ∧
        t.oc = { s.oc with extents := s.oc.extents.map fun e => { e with inflight := 0 } } ∧
        t = { s with plu := t.plu, oc := t.oc, dct := t.dct, tc := { s.tc with intents := t.tc.intents }, mi := t.mi } ∧
        ((∀ e ∈ s.dct.entries, e.watched ≠ none) → t.plu = s.plu) ∧
        ((∀ e ∈ s.dct.entries, e.watched = none) → t.tc = s.tc) ∧
        (∀ (e : Entry) (p : Port), s.dct.entries = [e] → e.origin = .server p → e.watched = none → e.op ≠ .read →
          t.plu = s.plu.set p ((s.plu.get p).handOver (.completion e.serverTag .driveReset 0))) ∧
        (∀ (e : Entry) (id : Word), s.dct.entries = [e] → e.watched = some id → e.op = .write →
          t.tc = (takeOutcome id e.seq .lostInReset s).tc)) ∧
    (∀ e : Entry, s.dct.entries = [e] → e.origin = .bridge → e.op = .write → e.abort.isSome = true →
      s.ic.bridge ≠ .starting → s.ic.cycle = .writing → s.ic.attempt < 3 →
      exec (.abortTimerExpiry e.tag) s = .next { s with
        dct := { s.dct with
          entries := [], drive := .resetting, reattachTimer := some 5, reattachNo := 1,
          out := s.dct.out ++ [.reset, .identify], bridgeWait := some .imageWrite },
        mi := { s.mi with events := s.mi.events ||| 16#16 },
        oc := { s.oc with extents := s.oc.extents.map fun e => { e with inflight := 0 } },
        ic := { s.ic with attempt := s.ic.attempt + 1 } })) ∧
  (∀ s : State, Quiet s → s.ic.bridge ≠ .starting ∨ (∀ e ∈ s.dct.entries, e.origin ≠ .bridge) →
     ∃ t : State,
       (∀ e : Entry, s.dct.find e.tag = some e → e.abort.isSome = true → exec (.abortTimerExpiry e.tag) s = .next t) ∧
       (s.dct.drive = .ready → s.dct.prsnLow = true →
         exec .dvPrsnHigh s = .next { t with dct := { t.dct with prsnLow := false } }) ∧
       (∀ p : Port,
         t.plu.get p =
           (s.dct.entries.filter fun e => e.origin = .server p ∧ e.watched = none).foldl (fun u e =>
             if e.op = .read ∧ u.sending e.seq = true then
               { u with readDone := u.readDone ++ [⟨e.seq, false, e.serverTag, .driveReset, 0⟩] }
             else u.handOver (.completion e.serverTag .driveReset 0)) (s.plu.get p) ∧
         ∀ tag : Word, t.tagInUse p tag = true ↔
           (∃ q ∈ s.au.queue.get p, q.tag = tag) ∨ ∃ r ∈ (s.plu.get p).readDone, r.holdsTag = true ∧ r.tag = tag) ∧
       t.tc = ((s.dct.entries.filter fun e => e.origin ≠ .bridge ∧ e.op = .write ∧ e.watched ≠ none).foldl
         (fun v e => takeOutcome (e.watched.getD 0) e.seq .lostInReset v) s).tc ∧
       t.oc = { s.oc with extents := s.oc.extents.map fun e => { e with inflight := 0 } } ∧
       t.dct.entries = [] ∧ t.dct.drive = .resetting ∧ t.sup = s.sup ∧ t.au = s.au ∧ t.ic.bridge = s.ic.bridge) ∧
  (∀ (u : Plu) (seq : BitVec 64), u.sending seq = true ↔ ∃ tag off bs, DataMsg.readData seq tag off bs ∈ u.dataList) ∧
  (∀ (s : State) (e : Entry), Quiet s → s.dct.entries = [e] → e.origin = .bridge → e.op = .read →
     s.ic.bridge = .starting →
     ∃ t : State,
       (e.abort.isSome = true → exec (.abortTimerExpiry e.tag) s = .next t) ∧
       (s.dct.drive = .ready → s.dct.prsnLow = true →
         exec .dvPrsnHigh s = .next { t with dct := { t.dct with prsnLow := false } }) ∧
       t = { s with sup := t.sup, oc := t.oc, dct := t.dct, ic := t.ic, mi := t.mi } ∧
       t.dct = { s.dct with
         entries := [], drive := .resetting, reattachTimer := some 5, reattachNo := 1,
         out := s.dct.out ++ [.reset, .identify] } ∧
       t.ic = { s.ic with bridge := .recovery, generation := 0 } ∧
       t.oc = { s.oc with
         shift := shiftOf s.oc.visible 16,
         extents := List.replicate (extentsOf s.oc.visible (shiftOf s.oc.visible 16)) ⟨none, .shared, 0, 0, none, none⟩,
         ownerId := ⟨0, 0⟩, emap := 0 } ∧
       t.mi = { s.mi with events :=
         s.mi.events ||| 16#16 ||| 256#16 ||| (if 16 < t.oc.shift then 128#16 else 0) } ∧
       ∀ p : Port, t.sup.get p =
         if s.port p = .offline ∧ (s.plu.get p).align ≠ .down then { s.sup.get p with state := .linked }
         else s.sup.get p)

/-- R103, R104, R106, R166, R171: an image cycle begins, with its contents built and the WRITE handed over; a bridge
command that waits is issued on the bridge tag D - 1 when the drive is READY and the tag is free. R172, R173: the end
of an image command at the drive: a WRITE done hands over the FLUSH; a FLUSH done serves the tickets of the generation
as durable and clears IMAGE_FAULT; a failure before the third hands over the WRITE again; the third serves them
NOT_DURABLE, with IMAGE_FAULT set and its event raised. R112: an abort answer DONE ends the command as a failure does. -/
def Obligations.ImageCycleRuns : Prop :=
  (∀ s : State,
     (s.ic.beginDue = true →
       exec .imageCycleBegin s = .next { s with
         ic := { s.ic with
           generation := s.ic.generation + 1, dirty := false, attempt := 1,
           contents := imageOf s (s.ic.generation + 1), cycle := .writing, beginDue := false },
         dct := { s.dct with bridgeWait := some .imageWrite } }) ∧
     (s.ic.beginDue = false → exec .imageCycleBegin s = .next s) ∧
     (∀ c : BridgeCmd, s.dct.bridgeWait = some c → s.dct.drive = .ready →
       (∀ e ∈ s.dct.entries, e.tag ≠ s.dct.depth - 1) →
       ∃ t : State, exec .bridgeCommandIssue s = .next t ∧
         t = { s with dct := { s.dct with
           bridgeWait := none, issueCount := s.dct.issueCount + 1, entries := t.dct.entries, out := t.dct.out } } ∧
         t.dct.entries = s.dct.entries ++
           [⟨s.dct.depth - 1, .bridge, 0, c.op, none, 0, s.dct.issueCount, 0, some s.cfg.tCmd, none, none⟩] ∧
         (c = .imageRead → t.dct.out = s.dct.out ++
           [.command (s.dct.depth - 1) .read (some (s.oc.visible, if s.blockSize = 512 then 17 else 3))]) ∧
         (c = .imageWrite → t.dct.out = s.dct.out ++
           [.command (s.dct.depth - 1) .write (some (s.oc.visible, if s.blockSize = 512 then 17 else 3)),
            .writeData (s.dct.depth - 1) 0 (paddedImage s.blockSize s.ic.contents)]) ∧
         (c = .imageFlush → t.dct.out = s.dct.out ++ [.command (s.dct.depth - 1) .flush none])) ∧
     (s.dct.bridgeWait = none ∨ s.dct.drive ≠ .ready ∨ (∃ e ∈ s.dct.entries, e.tag = s.dct.depth - 1) →
       exec .bridgeCommandIssue s = .next s)) ∧
  (∀ (e : Entry) (status : DriveStatus) (detail : Word) (s d : State), Quiet s → s.dct.find e.tag = some e →
     e.origin = .bridge → e.op ≠ .read → e.range = none → s.ic.bridge ≠ .starting →
     d = { s with dct := { s.dct with entries := s.dct.entries.filter fun f => f.tag ≠ e.tag } } →
     (status = .good → s.ic.cycle = .writing →
       exec (.driveCompletion e.tag status detail) s = .next { d with
         ic := { s.ic with cycle := .flushing },
         dct := { d.dct with bridgeWait := some .imageFlush } }) ∧
     (status = .good → s.ic.cycle = .flushing →
       exec (.driveCompletion e.tag status detail) s = .next { d with ic := { s.ic with
         served := s.ic.served ++
           (s.ic.tickets.filter fun k => k.generation = s.ic.generation).map fun k => ⟨k.taker, true⟩,
         tickets := s.ic.tickets.filter fun k => k.generation ≠ s.ic.generation,
         attempt := 0, cycle := .idle, beginDue := s.ic.dirty, imageFault := false } }) ∧
     (status = .error → s.ic.cycle ≠ .idle → s.ic.attempt < 3 →
       exec (.driveCompletion e.tag status detail) s = .next { d with
         ic := { s.ic with attempt := s.ic.attempt + 1, cycle := .writing },
         dct := { d.dct with bridgeWait := some .imageWrite } }) ∧
     (status = .error → s.ic.cycle ≠ .idle → s.ic.attempt = 3 →
       exec (.driveCompletion e.tag status detail) s = .next { d with
         ic := { s.ic with
           served := s.ic.served ++
             (s.ic.tickets.filter fun k => k.generation = s.ic.generation).map fun k => ⟨k.taker, false⟩,
           tickets := s.ic.tickets.filter fun k => k.generation ≠ s.ic.generation,
           attempt := 0, cycle := .idle, beginDue := s.ic.dirty, imageFault := true },
         mi := { s.mi with events := s.mi.events ||| 64#16 } }) ∧
     (e.abort.isSome = true → s.ic.cycle ≠ .idle →
       exec (.abortAnswer e.tag true) s = exec (.driveCompletion e.tag .error detail) s ∧
       (s.ic.attempt < 3 →
         exec (.abortAnswer e.tag true) s = .next { d with
           ic := { s.ic with attempt := s.ic.attempt + 1, cycle := .writing },
           dct := { d.dct with bridgeWait := some .imageWrite } }) ∧
       (s.ic.attempt = 3 →
         exec (.abortAnswer e.tag true) s = .next { d with
           ic := { s.ic with
             served := s.ic.served ++
               (s.ic.tickets.filter fun k => k.generation = s.ic.generation).map fun k => ⟨k.taker, false⟩,
             tickets := s.ic.tickets.filter fun k => k.generation ≠ s.ic.generation,
             attempt := 0, cycle := .idle, beginDue := s.ic.dirty, imageFault := true },
           mi := { s.mi with events := s.mi.events ||| 64#16 } })))

/-- R176, R177, R178: the image READ ends: with a valid image the part enters SERVICE with the table, the identities, the
configuration and the generation of the image and the epoch one above it; otherwise it enters RECOVERY with the table of
the default k_req, all NONE, as it does when the READ ends by an abort answer DONE (R112, R176). R95, R97: the first
window has a guarantee for the ports that are ENROLLED or PARKING alone.
R177, R52, R178: the events that a load and the entry to RECOVERY raise. R168: an image is valid exactly when it passes the
tests 2 to 7, and what it decodes to, an undefined owner code as NONE and an undefined policy code as SHARED. The byte
places are the model's own (log 15). -/
def Obligations.ImageReadEnds : Prop :=
  (∀ (e : Entry) (status : DriveStatus) (detail : Word) (s : State) (x : Loaded), Quiet s → s.dct.find e.tag = some e →
    e.origin = .bridge → e.op = .read → s.ic.bridge = .starting →
    x = decodeImage s.oc.visible (imageRead s.ic.readBuf) →
    ∃ t : State, exec (.driveCompletion e.tag status detail) s = .next t ∧
      (status = .error → e.abort.isSome = true → exec (.abortAnswer e.tag true) s = .next t) ∧
      t.dct = { s.dct with entries := s.dct.entries.filter fun f => f.tag ≠ e.tag } ∧
      t = { s with sup := t.sup, startWindow := t.startWindow, oc := t.oc, au := t.au, dct := t.dct, ic := t.ic,
                   mi := t.mi } ∧
      (∀ p : Port, t.port p =
        if s.port p = .offline ∧ (s.plu.get p).align ≠ .down then .linked else s.port p) ∧
      (status = .good → imageValid s.oc.visible (imageRead s.ic.readBuf) = true →
        t.ic = { s.ic with bridge := .service, generation := x.generation } ∧
        t.oc = { s.oc with
          shift := x.shift, extents := x.extents, ownerId := x.ownerId, emap := satSucc x.epoch } ∧
        t.mi.settings = x.settings ∧ t.startWindow = some x.settings.tSw ∧
        t.au.depth = ⟨x.settings.depth, x.settings.depth⟩ ∧ t.au.w = 0 ∧ t.au.granted = ⟨0, 0⟩ ∧
        (∃ w, t.au.window = some w ∧ w.length = x.settings.window)) ∧
      (status = .error ∨ imageValid s.oc.visible (imageRead s.ic.readBuf) = false →
        t.ic = { s.ic with bridge := .recovery, generation := 0 } ∧
        t.oc = { s.oc with
          shift := shiftOf s.oc.visible 16,
          extents := List.replicate (extentsOf s.oc.visible (shiftOf s.oc.visible 16)) ⟨none, .shared, 0, 0, none, none⟩,
          ownerId := ⟨0, 0⟩, emap := 0 } ∧
        t.mi.settings = s.mi.settings ∧ t.mi.events &&& 256#16 = 256#16 ∧ t.startWindow = s.startWindow ∧ t.au = s.au) ∧
      (status = .good → imageValid s.oc.visible (imageRead s.ic.readBuf) = true →
        (∃ w, t.au.window = some w ∧ ∀ p : Port, w.guar.get p =
          if s.port p = .enrolled ∨ s.port p = .parking then x.settings.guar.get p else 0) ∧
        t.mi.events = s.mi.events ||| (if x.clamped = true ∨ x.settings.kReq < x.shift then 128#16 else 0) |||
          (if 4294967294#32 ≤ x.epoch then 1024#16 else 0)) ∧
      (status = .error ∨ imageValid s.oc.visible (imageRead s.ic.readBuf) = false →
        t.mi.events = s.mi.events ||| 256#16 ||| (if 16 < shiftOf s.oc.visible 16 then 128#16 else 0))) ∧
  (∀ (v kReq e : Nat) (img : List Byte), kReq = (settingsOfRaw (configOfBytes ((img.drop 26).take 30))).kReq →
     e = extentsOf v (shiftOf v kReq) →
     (imageValid v img = true ↔
       fieldAt img 0 2 = 0x5A3C ∧ fieldAt img 2 2 = 1 ∧ wordSum img % 65536 = 0x7E51 ∧ fieldAt img 16 6 = v ∧
         fieldAt img 12 1 = shiftOf v kReq ∧ fieldAt img 14 2 = e ∧
         ∀ i, i < e → fieldAt img (130 + 8 * i) 4 ≤ fieldAt img 8 4)) ∧
  (∀ (v : Nat) (img : List Byte) (x : Loaded), x = decodeImage v img →
     x.settings = settingsOfRaw (configOfBytes ((img.drop 26).take 30)) ∧
     x.clamped = rawClamped (configOfBytes ((img.drop 26).take 30)) ∧
     x.shift = shiftOf v x.settings.kReq ∧ x.extents.length = extentsOf v x.shift ∧
     x.generation.toNat = fieldAt img 4 4 ∧ x.epoch.toNat = fieldAt img 8 4 ∧ x.ownerId.a.toNat = fieldAt img 22 2 ∧
     x.ownerId.b.toNat = fieldAt img 24 2 ∧
     ∀ (i : Nat) (y : Extent), x.extents[i]? = some y →
       y.owner = (if fieldAt img (128 + 8 * i) 1 = 1 then some .a
         else if fieldAt img (128 + 8 * i) 1 = 2 then some .b else none) ∧
       y.policy = (if fieldAt img (129 + 8 * i) 1 = 1 then .owner else .shared) ∧
       y.epoch.toNat = fieldAt img (130 + 8 * i) 4 ∧ y.inflight = 0 ∧ y.mark = none ∧ y.claim = none)

/-! ### Geometry and image arithmetic (chapters 3 and 9) -/

/-- R39, R40: for every supported V and every k_req in range, k is the least number at or above k_req with 1024 * 2^k at
or above V, and is at most 30; E is ceil(V / 2^k), 1 to 1024, and E extents of 2^k blocks, the last perhaps shorter but
never empty, cover V. -/
def Obligations.GeometryExact : Prop :=
  ∀ (v kReq : Nat), 256 ≤ v → v ≤ 2 ^ 40 → 8 ≤ kReq → kReq ≤ 30 →
    kReq ≤ shiftOf v kReq ∧ shiftOf v kReq ≤ 30 ∧ v ≤ 1024 * 2 ^ shiftOf v kReq ∧
    (∀ j, kReq ≤ j → v ≤ 1024 * 2 ^ j → shiftOf v kReq ≤ j) ∧
    1 ≤ extentsOf v (shiftOf v kReq) ∧ extentsOf v (shiftOf v kReq) ≤ 1024 ∧
    (extentsOf v (shiftOf v kReq) - 1) * 2 ^ shiftOf v kReq < v ∧
    v ≤ extentsOf v (shiftOf v kReq) * 2 ^ shiftOf v kReq

/-- R42: the span of a range that passes R41: its first and last extent, both of which exist, the blocks of the range in
each extent, which add to N, and the greatest span. -/
def Obligations.SpanExact : Prop :=
  ∀ (v k : Nat) (lba : BitVec 48) (n : Word) (r : Range), n ≠ 0 → lba.toNat + n.toNat ≤ v → r = rangeOf k lba n →
    r.f = lba.toNat / 2 ^ k ∧ r.g = (lba.toNat + n.toNat - 1) / 2 ^ k ∧ r.f ≤ r.g ∧ r.g ≤ extentsOf v k - 1 ∧
    r.g < extentsOf v k ∧
    (r.f = r.g → blocksIn k r r.f = n.toNat) ∧
    (r.f < r.g → blocksIn k r r.f = (r.f + 1) * 2 ^ k - lba.toNat ∧
      blocksIn k r r.g = lba.toNat + n.toNat - r.g * 2 ^ k ∧ ∀ x, r.f < x → x < r.g → blocksIn k r x = 2 ^ k) ∧
    ((List.range (r.g - r.f + 1)).map fun i => blocksIn k r (r.f + i)).sum = n.toNat ∧
    r.g - r.f + 1 ≤ (n.toNat - 1) / 2 ^ k + 2 ∧
    (8 ≤ k → r.g - r.f + 1 ≤ 257 ∧ (r.g - r.f + 1 = 257 → k = 8 ∧ 65282 ≤ n.toNat))

/-- R167: the wrapping sum of the 4,160 words of every image that is built is 7E51h, and the checksum word is 7E51h less
the sum of the other words. Its place in the header, bytes 56 and 57, is the model's choice (log 15). -/
def Obligations.ImageSumIs7E51 : Prop :=
  ∀ (s : State) (generation : BitVec 32), s.oc.extents.length ≤ 1024 →
    (imageOf s generation).length = 8320 ∧ wordSum (imageOf s generation) % 65536 = 0x7E51 ∧
    (fieldAt (imageOf s generation) 56 2 +
      wordSum ((imageOf s generation).take 56 ++ [0, 0] ++ (imageOf s generation).drop 58)) % 65536 = 0x7E51

/-- R166, R168, R171: the image that the part writes is valid at the next start-up with the same V, and what it loads is
what it wrote: every owner, policy and change epoch, the identities, the epoch, the settings and the generation. The part
is here in a state with the geometry of its settings, its settings in range, and its epochs at or below the map epoch. The
byte places are the model's own (log 15). -/
def Obligations.ImageRoundTrip : Prop :=
  ∀ (s : State) (generation : BitVec 32) (r : RawConfig), s.mi.settings = settingsOfRaw r →
    256 ≤ s.oc.visible → s.oc.visible ≤ 2 ^ 40 → s.oc.shift = shiftOf s.oc.visible s.mi.settings.kReq →
    s.oc.extents.length = extentsOf s.oc.visible s.oc.shift → EpochsBounded s →
    imageRead (imageOf s generation) = imageOf s generation ∧
    imageValid s.oc.visible (imageOf s generation) = true ∧
    decodeImage s.oc.visible (imageOf s generation) =
      { generation := generation, epoch := s.oc.emap, ownerId := s.oc.ownerId, settings := s.mi.settings,
        clamped := false, shift := s.oc.shift,
        extents := s.oc.extents.map fun e => { e with inflight := 0, mark := none, claim := none } }

/-! ### What every step keeps -/

/-- R20: no step lets an outbound queue hold more than 192 messages. R156: no step lets the intent list hold more than
two sets. -/
def Obligations.OutboundAndIntentsBounded : Prop :=
  (∀ s t : State, QueuesBounded s → step s = .next t → QueuesBounded t) ∧
  (∀ s t : State, IntentsBounded s → step s = .next t → IntentsBounded t)

/-- Section 5.4: every step keeps the grants of the two ports adding to the window position. R80, R85, R86: every step
keeps each admission queue within its depth, and empty while the bridge is not in SERVICE. -/
def Obligations.AdmissionStaysSound : Prop :=
  (∀ s t : State, GrantsCounted s → step s = .next t → GrantsCounted t) ∧
  (∀ s t : State, AdmissionBounded s → step s = .next t → AdmissionBounded t)

/-- R99, R120, R180: every step keeps LOST and HALTED together, and no command at a drive that is not READY. -/
def Obligations.LostStaysHalted : Prop :=
  ∀ s t : State, LostIsHalted s → step s = .next t → LostIsHalted t

/-- R103: every step keeps the drive tags sound: one entry per tag, every tag below D, and the bridge tag the part's own. -/
def Obligations.TagsStaySound : Prop :=
  ∀ s t : State, TagsSound s → step s = .next t → TagsSound t

/-- R46, R51: "The map epoch never decreases between full resets", and no change epoch exceeds it: every command but a full
reset keeps both, from a state that is also clean while STARTING, which it keeps as well. -/
def Obligations.EpochsNeverFall : Prop :=
  ∀ (c : Instr) (s t : State), EpochsBounded s → StartingClean s → exec c s = .next t →
    EpochsBounded t ∧ StartingClean t ∧ (isReset c = false → s.oc.emap ≤ t.oc.emap)

/-- R2, R18: every step keeps both ports at the same local position. -/
def Obligations.PositionsStayEqual : Prop :=
  ∀ s t : State, PositionsAgree s → step s = .next t → PositionsAgree t

end Statements
end

