-- ==== Sys2Proof/Laws/State.lean ====
section
/-! SUPPORT. One lemma per field of State for each update of one block, true by rfl, and what the pair of ports reads after a write. -/

namespace Sys2Proof.Machine

@[simp] theorem PerPort.get_set_self {α : Type} (x : PerPort α) (p : Port) (v : α) : (x.set p v).get p = v := by
  cases p <;> rfl

@[simp] theorem PerPort.get_set_peer {α : Type} (x : PerPort α) (p : Port) (v : α) :
    (x.set p v).get p.peer = x.get p.peer := by
  cases p <;> rfl

@[simp] theorem PerPort.get_peer_set {α : Type} (x : PerPort α) (p : Port) (v : α) :
    (x.set p.peer v).get p = x.get p := by
  cases p <;> rfl

theorem PerPort.get_set_of_ne {α : Type} (x : PerPort α) {p q : Port} (v : α) (h : q ≠ p) :
    (x.set p v).get q = x.get q := by
  cases p <;> cases q <;> first | rfl | exact absurd rfl h

@[simp] theorem PerPort.set_set {α : Type} (x : PerPort α) (p : Port) (v w : α) : (x.set p v).set p w = x.set p w := by
  cases p <;> rfl

@[simp] theorem PerPort.set_get {α : Type} (x : PerPort α) (p : Port) : x.set p (x.get p) = x := by
  cases p <;> rfl

@[simp] theorem Port.peer_peer (p : Port) : p.peer.peer = p := by
  cases p <;> rfl

theorem Port.peer_ne (p : Port) : p.peer ≠ p := by
  cases p <;> decide

/-! ### One block replaced -/

@[simp] theorem State.onPlu_plu (s : State) (p : Port) (f : Plu → Plu) : (s.onPlu p f).plu = s.plu.set p (f (s.plu.get p)) := rfl

@[simp] theorem State.onPlu_sup (s : State) (p : Port) (f : Plu → Plu) : (s.onPlu p f).sup = s.sup := rfl

@[simp] theorem State.onPlu_startWindow (s : State) (p : Port) (f : Plu → Plu) : (s.onPlu p f).startWindow = s.startWindow := rfl

@[simp] theorem State.onPlu_fillNext (s : State) (p : Port) (f : Plu → Plu) : (s.onPlu p f).fillNext = s.fillNext := rfl

@[simp] theorem State.onPlu_oc (s : State) (p : Port) (f : Plu → Plu) : (s.onPlu p f).oc = s.oc := rfl

@[simp] theorem State.onPlu_au (s : State) (p : Port) (f : Plu → Plu) : (s.onPlu p f).au = s.au := rfl

@[simp] theorem State.onPlu_dct (s : State) (p : Port) (f : Plu → Plu) : (s.onPlu p f).dct = s.dct := rfl

@[simp] theorem State.onPlu_tc (s : State) (p : Port) (f : Plu → Plu) : (s.onPlu p f).tc = s.tc := rfl

@[simp] theorem State.onPlu_ic (s : State) (p : Port) (f : Plu → Plu) : (s.onPlu p f).ic = s.ic := rfl

@[simp] theorem State.onPlu_mi (s : State) (p : Port) (f : Plu → Plu) : (s.onPlu p f).mi = s.mi := rfl

@[simp] theorem State.onPlu_pending (s : State) (p : Port) (f : Plu → Plu) : (s.onPlu p f).pending = s.pending := rfl

@[simp] theorem State.onSup_plu (s : State) (p : Port) (f : Supervisor → Supervisor) : (s.onSup p f).plu = s.plu := rfl

@[simp] theorem State.onSup_sup (s : State) (p : Port) (f : Supervisor → Supervisor) : (s.onSup p f).sup = s.sup.set p (f (s.sup.get p)) := rfl

@[simp] theorem State.onSup_startWindow (s : State) (p : Port) (f : Supervisor → Supervisor) : (s.onSup p f).startWindow = s.startWindow := rfl

@[simp] theorem State.onSup_fillNext (s : State) (p : Port) (f : Supervisor → Supervisor) : (s.onSup p f).fillNext = s.fillNext := rfl

@[simp] theorem State.onSup_oc (s : State) (p : Port) (f : Supervisor → Supervisor) : (s.onSup p f).oc = s.oc := rfl

@[simp] theorem State.onSup_au (s : State) (p : Port) (f : Supervisor → Supervisor) : (s.onSup p f).au = s.au := rfl

@[simp] theorem State.onSup_dct (s : State) (p : Port) (f : Supervisor → Supervisor) : (s.onSup p f).dct = s.dct := rfl

@[simp] theorem State.onSup_tc (s : State) (p : Port) (f : Supervisor → Supervisor) : (s.onSup p f).tc = s.tc := rfl

@[simp] theorem State.onSup_ic (s : State) (p : Port) (f : Supervisor → Supervisor) : (s.onSup p f).ic = s.ic := rfl

@[simp] theorem State.onSup_mi (s : State) (p : Port) (f : Supervisor → Supervisor) : (s.onSup p f).mi = s.mi := rfl

@[simp] theorem State.onSup_pending (s : State) (p : Port) (f : Supervisor → Supervisor) : (s.onSup p f).pending = s.pending := rfl

@[simp] theorem State.onOc_plu (s : State) (f : Oc → Oc) : (s.onOc f).plu = s.plu := rfl

@[simp] theorem State.onOc_sup (s : State) (f : Oc → Oc) : (s.onOc f).sup = s.sup := rfl

@[simp] theorem State.onOc_startWindow (s : State) (f : Oc → Oc) : (s.onOc f).startWindow = s.startWindow := rfl

@[simp] theorem State.onOc_fillNext (s : State) (f : Oc → Oc) : (s.onOc f).fillNext = s.fillNext := rfl

@[simp] theorem State.onOc_oc (s : State) (f : Oc → Oc) : (s.onOc f).oc = f s.oc := rfl

@[simp] theorem State.onOc_au (s : State) (f : Oc → Oc) : (s.onOc f).au = s.au := rfl

@[simp] theorem State.onOc_dct (s : State) (f : Oc → Oc) : (s.onOc f).dct = s.dct := rfl

@[simp] theorem State.onOc_tc (s : State) (f : Oc → Oc) : (s.onOc f).tc = s.tc := rfl

@[simp] theorem State.onOc_ic (s : State) (f : Oc → Oc) : (s.onOc f).ic = s.ic := rfl

@[simp] theorem State.onOc_mi (s : State) (f : Oc → Oc) : (s.onOc f).mi = s.mi := rfl

@[simp] theorem State.onOc_pending (s : State) (f : Oc → Oc) : (s.onOc f).pending = s.pending := rfl

@[simp] theorem State.onAu_plu (s : State) (f : Au → Au) : (s.onAu f).plu = s.plu := rfl

@[simp] theorem State.onAu_sup (s : State) (f : Au → Au) : (s.onAu f).sup = s.sup := rfl

@[simp] theorem State.onAu_startWindow (s : State) (f : Au → Au) : (s.onAu f).startWindow = s.startWindow := rfl

@[simp] theorem State.onAu_fillNext (s : State) (f : Au → Au) : (s.onAu f).fillNext = s.fillNext := rfl

@[simp] theorem State.onAu_oc (s : State) (f : Au → Au) : (s.onAu f).oc = s.oc := rfl

@[simp] theorem State.onAu_au (s : State) (f : Au → Au) : (s.onAu f).au = f s.au := rfl

@[simp] theorem State.onAu_dct (s : State) (f : Au → Au) : (s.onAu f).dct = s.dct := rfl

@[simp] theorem State.onAu_tc (s : State) (f : Au → Au) : (s.onAu f).tc = s.tc := rfl

@[simp] theorem State.onAu_ic (s : State) (f : Au → Au) : (s.onAu f).ic = s.ic := rfl

@[simp] theorem State.onAu_mi (s : State) (f : Au → Au) : (s.onAu f).mi = s.mi := rfl

@[simp] theorem State.onAu_pending (s : State) (f : Au → Au) : (s.onAu f).pending = s.pending := rfl

@[simp] theorem State.onDct_plu (s : State) (f : Dct → Dct) : (s.onDct f).plu = s.plu := rfl

@[simp] theorem State.onDct_sup (s : State) (f : Dct → Dct) : (s.onDct f).sup = s.sup := rfl

@[simp] theorem State.onDct_startWindow (s : State) (f : Dct → Dct) : (s.onDct f).startWindow = s.startWindow := rfl

@[simp] theorem State.onDct_fillNext (s : State) (f : Dct → Dct) : (s.onDct f).fillNext = s.fillNext := rfl

@[simp] theorem State.onDct_oc (s : State) (f : Dct → Dct) : (s.onDct f).oc = s.oc := rfl

@[simp] theorem State.onDct_au (s : State) (f : Dct → Dct) : (s.onDct f).au = s.au := rfl

@[simp] theorem State.onDct_dct (s : State) (f : Dct → Dct) : (s.onDct f).dct = f s.dct := rfl

@[simp] theorem State.onDct_tc (s : State) (f : Dct → Dct) : (s.onDct f).tc = s.tc := rfl

@[simp] theorem State.onDct_ic (s : State) (f : Dct → Dct) : (s.onDct f).ic = s.ic := rfl

@[simp] theorem State.onDct_mi (s : State) (f : Dct → Dct) : (s.onDct f).mi = s.mi := rfl

@[simp] theorem State.onDct_pending (s : State) (f : Dct → Dct) : (s.onDct f).pending = s.pending := rfl

@[simp] theorem State.onTc_plu (s : State) (f : Tc → Tc) : (s.onTc f).plu = s.plu := rfl

@[simp] theorem State.onTc_sup (s : State) (f : Tc → Tc) : (s.onTc f).sup = s.sup := rfl

@[simp] theorem State.onTc_startWindow (s : State) (f : Tc → Tc) : (s.onTc f).startWindow = s.startWindow := rfl

@[simp] theorem State.onTc_fillNext (s : State) (f : Tc → Tc) : (s.onTc f).fillNext = s.fillNext := rfl

@[simp] theorem State.onTc_oc (s : State) (f : Tc → Tc) : (s.onTc f).oc = s.oc := rfl

@[simp] theorem State.onTc_au (s : State) (f : Tc → Tc) : (s.onTc f).au = s.au := rfl

@[simp] theorem State.onTc_dct (s : State) (f : Tc → Tc) : (s.onTc f).dct = s.dct := rfl

@[simp] theorem State.onTc_tc (s : State) (f : Tc → Tc) : (s.onTc f).tc = f s.tc := rfl

@[simp] theorem State.onTc_ic (s : State) (f : Tc → Tc) : (s.onTc f).ic = s.ic := rfl

@[simp] theorem State.onTc_mi (s : State) (f : Tc → Tc) : (s.onTc f).mi = s.mi := rfl

@[simp] theorem State.onTc_pending (s : State) (f : Tc → Tc) : (s.onTc f).pending = s.pending := rfl

@[simp] theorem State.onIc_plu (s : State) (f : Ic → Ic) : (s.onIc f).plu = s.plu := rfl

@[simp] theorem State.onIc_sup (s : State) (f : Ic → Ic) : (s.onIc f).sup = s.sup := rfl

@[simp] theorem State.onIc_startWindow (s : State) (f : Ic → Ic) : (s.onIc f).startWindow = s.startWindow := rfl

@[simp] theorem State.onIc_fillNext (s : State) (f : Ic → Ic) : (s.onIc f).fillNext = s.fillNext := rfl

@[simp] theorem State.onIc_oc (s : State) (f : Ic → Ic) : (s.onIc f).oc = s.oc := rfl

@[simp] theorem State.onIc_au (s : State) (f : Ic → Ic) : (s.onIc f).au = s.au := rfl

@[simp] theorem State.onIc_dct (s : State) (f : Ic → Ic) : (s.onIc f).dct = s.dct := rfl

@[simp] theorem State.onIc_tc (s : State) (f : Ic → Ic) : (s.onIc f).tc = s.tc := rfl

@[simp] theorem State.onIc_ic (s : State) (f : Ic → Ic) : (s.onIc f).ic = f s.ic := rfl

@[simp] theorem State.onIc_mi (s : State) (f : Ic → Ic) : (s.onIc f).mi = s.mi := rfl

@[simp] theorem State.onIc_pending (s : State) (f : Ic → Ic) : (s.onIc f).pending = s.pending := rfl

@[simp] theorem State.onMi_plu (s : State) (f : Mi → Mi) : (s.onMi f).plu = s.plu := rfl

@[simp] theorem State.onMi_sup (s : State) (f : Mi → Mi) : (s.onMi f).sup = s.sup := rfl

@[simp] theorem State.onMi_startWindow (s : State) (f : Mi → Mi) : (s.onMi f).startWindow = s.startWindow := rfl

@[simp] theorem State.onMi_fillNext (s : State) (f : Mi → Mi) : (s.onMi f).fillNext = s.fillNext := rfl

@[simp] theorem State.onMi_oc (s : State) (f : Mi → Mi) : (s.onMi f).oc = s.oc := rfl

@[simp] theorem State.onMi_au (s : State) (f : Mi → Mi) : (s.onMi f).au = s.au := rfl

@[simp] theorem State.onMi_dct (s : State) (f : Mi → Mi) : (s.onMi f).dct = s.dct := rfl

@[simp] theorem State.onMi_tc (s : State) (f : Mi → Mi) : (s.onMi f).tc = s.tc := rfl

@[simp] theorem State.onMi_ic (s : State) (f : Mi → Mi) : (s.onMi f).ic = s.ic := rfl

@[simp] theorem State.onMi_mi (s : State) (f : Mi → Mi) : (s.onMi f).mi = f s.mi := rfl

@[simp] theorem State.onMi_pending (s : State) (f : Mi → Mi) : (s.onMi f).pending = s.pending := rfl

/-! ### What the named operations leave alone -/

@[simp] theorem handOver_sup (p : Port) (m : OutMsg) (s : State) : (handOver p m s).sup = s.sup := rfl

@[simp] theorem handOver_startWindow (p : Port) (m : OutMsg) (s : State) : (handOver p m s).startWindow = s.startWindow := rfl

@[simp] theorem handOver_fillNext (p : Port) (m : OutMsg) (s : State) : (handOver p m s).fillNext = s.fillNext := rfl

@[simp] theorem handOver_oc (p : Port) (m : OutMsg) (s : State) : (handOver p m s).oc = s.oc := rfl

@[simp] theorem handOver_au (p : Port) (m : OutMsg) (s : State) : (handOver p m s).au = s.au := rfl

@[simp] theorem handOver_dct (p : Port) (m : OutMsg) (s : State) : (handOver p m s).dct = s.dct := rfl

@[simp] theorem handOver_tc (p : Port) (m : OutMsg) (s : State) : (handOver p m s).tc = s.tc := rfl

@[simp] theorem handOver_ic (p : Port) (m : OutMsg) (s : State) : (handOver p m s).ic = s.ic := rfl

@[simp] theorem handOver_mi (p : Port) (m : OutMsg) (s : State) : (handOver p m s).mi = s.mi := rfl

@[simp] theorem handOver_pending (p : Port) (m : OutMsg) (s : State) : (handOver p m s).pending = s.pending := rfl

@[simp] theorem answer_sup (p : Port) (ref : Word) (fl : MsgFlags) (r : AnsResult) (b : AnswerBody) (s : State) : (answer p ref fl r b s).sup = s.sup := rfl

@[simp] theorem answer_startWindow (p : Port) (ref : Word) (fl : MsgFlags) (r : AnsResult) (b : AnswerBody) (s : State) : (answer p ref fl r b s).startWindow = s.startWindow := rfl

@[simp] theorem answer_fillNext (p : Port) (ref : Word) (fl : MsgFlags) (r : AnsResult) (b : AnswerBody) (s : State) : (answer p ref fl r b s).fillNext = s.fillNext := rfl

@[simp] theorem answer_oc (p : Port) (ref : Word) (fl : MsgFlags) (r : AnsResult) (b : AnswerBody) (s : State) : (answer p ref fl r b s).oc = s.oc := rfl

@[simp] theorem answer_au (p : Port) (ref : Word) (fl : MsgFlags) (r : AnsResult) (b : AnswerBody) (s : State) : (answer p ref fl r b s).au = s.au := rfl

@[simp] theorem answer_dct (p : Port) (ref : Word) (fl : MsgFlags) (r : AnsResult) (b : AnswerBody) (s : State) : (answer p ref fl r b s).dct = s.dct := rfl

@[simp] theorem answer_tc (p : Port) (ref : Word) (fl : MsgFlags) (r : AnsResult) (b : AnswerBody) (s : State) : (answer p ref fl r b s).tc = s.tc := rfl

@[simp] theorem answer_ic (p : Port) (ref : Word) (fl : MsgFlags) (r : AnsResult) (b : AnswerBody) (s : State) : (answer p ref fl r b s).ic = s.ic := rfl

@[simp] theorem answer_mi (p : Port) (ref : Word) (fl : MsgFlags) (r : AnsResult) (b : AnswerBody) (s : State) : (answer p ref fl r b s).mi = s.mi := rfl

@[simp] theorem answer_pending (p : Port) (ref : Word) (fl : MsgFlags) (r : AnsResult) (b : AnswerBody) (s : State) : (answer p ref fl r b s).pending = s.pending := rfl

@[simp] theorem complete_sup (p : Port) (tag : Word) (st : CompStatus) (s : State) : (complete p tag st s).sup = s.sup := rfl

@[simp] theorem complete_startWindow (p : Port) (tag : Word) (st : CompStatus) (s : State) : (complete p tag st s).startWindow = s.startWindow := rfl

@[simp] theorem complete_fillNext (p : Port) (tag : Word) (st : CompStatus) (s : State) : (complete p tag st s).fillNext = s.fillNext := rfl

@[simp] theorem complete_oc (p : Port) (tag : Word) (st : CompStatus) (s : State) : (complete p tag st s).oc = s.oc := rfl

@[simp] theorem complete_au (p : Port) (tag : Word) (st : CompStatus) (s : State) : (complete p tag st s).au = s.au := rfl

@[simp] theorem complete_dct (p : Port) (tag : Word) (st : CompStatus) (s : State) : (complete p tag st s).dct = s.dct := rfl

@[simp] theorem complete_tc (p : Port) (tag : Word) (st : CompStatus) (s : State) : (complete p tag st s).tc = s.tc := rfl

@[simp] theorem complete_ic (p : Port) (tag : Word) (st : CompStatus) (s : State) : (complete p tag st s).ic = s.ic := rfl

@[simp] theorem complete_mi (p : Port) (tag : Word) (st : CompStatus) (s : State) : (complete p tag st s).mi = s.mi := rfl

@[simp] theorem complete_pending (p : Port) (tag : Word) (st : CompStatus) (s : State) : (complete p tag st s).pending = s.pending := rfl

@[simp] theorem pushData_sup (p : Port) (m : DataMsg) (s : State) : (pushData p m s).sup = s.sup := rfl

@[simp] theorem pushData_startWindow (p : Port) (m : DataMsg) (s : State) : (pushData p m s).startWindow = s.startWindow := rfl

@[simp] theorem pushData_fillNext (p : Port) (m : DataMsg) (s : State) : (pushData p m s).fillNext = s.fillNext := rfl

@[simp] theorem pushData_oc (p : Port) (m : DataMsg) (s : State) : (pushData p m s).oc = s.oc := rfl

@[simp] theorem pushData_au (p : Port) (m : DataMsg) (s : State) : (pushData p m s).au = s.au := rfl

@[simp] theorem pushData_dct (p : Port) (m : DataMsg) (s : State) : (pushData p m s).dct = s.dct := rfl

@[simp] theorem pushData_tc (p : Port) (m : DataMsg) (s : State) : (pushData p m s).tc = s.tc := rfl

@[simp] theorem pushData_ic (p : Port) (m : DataMsg) (s : State) : (pushData p m s).ic = s.ic := rfl

@[simp] theorem pushData_mi (p : Port) (m : DataMsg) (s : State) : (pushData p m s).mi = s.mi := rfl

@[simp] theorem pushData_pending (p : Port) (m : DataMsg) (s : State) : (pushData p m s).pending = s.pending := rfl

@[simp] theorem damage_sup (p : Port) (n : Nat) (s : State) : (damage p n s).sup = s.sup := rfl

@[simp] theorem damage_startWindow (p : Port) (n : Nat) (s : State) : (damage p n s).startWindow = s.startWindow := rfl

@[simp] theorem damage_fillNext (p : Port) (n : Nat) (s : State) : (damage p n s).fillNext = s.fillNext := rfl

@[simp] theorem damage_oc (p : Port) (n : Nat) (s : State) : (damage p n s).oc = s.oc := rfl

@[simp] theorem damage_au (p : Port) (n : Nat) (s : State) : (damage p n s).au = s.au := rfl

@[simp] theorem damage_dct (p : Port) (n : Nat) (s : State) : (damage p n s).dct = s.dct := rfl

@[simp] theorem damage_tc (p : Port) (n : Nat) (s : State) : (damage p n s).tc = s.tc := rfl

@[simp] theorem damage_ic (p : Port) (n : Nat) (s : State) : (damage p n s).ic = s.ic := rfl

@[simp] theorem damage_mi (p : Port) (n : Nat) (s : State) : (damage p n s).mi = s.mi := rfl

@[simp] theorem damage_pending (p : Port) (n : Nat) (s : State) : (damage p n s).pending = s.pending := rfl

@[simp] theorem sendDrive_plu (ms : List DriveMsg) (s : State) : (sendDrive ms s).plu = s.plu := rfl

@[simp] theorem sendDrive_sup (ms : List DriveMsg) (s : State) : (sendDrive ms s).sup = s.sup := rfl

@[simp] theorem sendDrive_startWindow (ms : List DriveMsg) (s : State) : (sendDrive ms s).startWindow = s.startWindow := rfl

@[simp] theorem sendDrive_fillNext (ms : List DriveMsg) (s : State) : (sendDrive ms s).fillNext = s.fillNext := rfl

@[simp] theorem sendDrive_oc (ms : List DriveMsg) (s : State) : (sendDrive ms s).oc = s.oc := rfl

@[simp] theorem sendDrive_au (ms : List DriveMsg) (s : State) : (sendDrive ms s).au = s.au := rfl

@[simp] theorem sendDrive_tc (ms : List DriveMsg) (s : State) : (sendDrive ms s).tc = s.tc := rfl

@[simp] theorem sendDrive_ic (ms : List DriveMsg) (s : State) : (sendDrive ms s).ic = s.ic := rfl

@[simp] theorem sendDrive_mi (ms : List DriveMsg) (s : State) : (sendDrive ms s).mi = s.mi := rfl

@[simp] theorem sendDrive_pending (ms : List DriveMsg) (s : State) : (sendDrive ms s).pending = s.pending := rfl

@[simp] theorem setPort_plu (p : Port) (st : PortState) (s : State) : (setPort p st s).plu = s.plu := rfl

@[simp] theorem setPort_startWindow (p : Port) (st : PortState) (s : State) : (setPort p st s).startWindow = s.startWindow := rfl

@[simp] theorem setPort_fillNext (p : Port) (st : PortState) (s : State) : (setPort p st s).fillNext = s.fillNext := rfl

@[simp] theorem setPort_oc (p : Port) (st : PortState) (s : State) : (setPort p st s).oc = s.oc := rfl

@[simp] theorem setPort_au (p : Port) (st : PortState) (s : State) : (setPort p st s).au = s.au := rfl

@[simp] theorem setPort_dct (p : Port) (st : PortState) (s : State) : (setPort p st s).dct = s.dct := rfl

@[simp] theorem setPort_tc (p : Port) (st : PortState) (s : State) : (setPort p st s).tc = s.tc := rfl

@[simp] theorem setPort_ic (p : Port) (st : PortState) (s : State) : (setPort p st s).ic = s.ic := rfl

@[simp] theorem setPort_mi (p : Port) (st : PortState) (s : State) : (setPort p st s).mi = s.mi := rfl

@[simp] theorem setPort_pending (p : Port) (st : PortState) (s : State) : (setPort p st s).pending = s.pending := rfl

@[simp] theorem raise_plu (e : Event) (s : State) : (raise e s).plu = s.plu := rfl

@[simp] theorem raise_sup (e : Event) (s : State) : (raise e s).sup = s.sup := rfl

@[simp] theorem raise_startWindow (e : Event) (s : State) : (raise e s).startWindow = s.startWindow := rfl

@[simp] theorem raise_fillNext (e : Event) (s : State) : (raise e s).fillNext = s.fillNext := rfl

@[simp] theorem raise_oc (e : Event) (s : State) : (raise e s).oc = s.oc := rfl

@[simp] theorem raise_au (e : Event) (s : State) : (raise e s).au = s.au := rfl

@[simp] theorem raise_dct (e : Event) (s : State) : (raise e s).dct = s.dct := rfl

@[simp] theorem raise_tc (e : Event) (s : State) : (raise e s).tc = s.tc := rfl

@[simp] theorem raise_ic (e : Event) (s : State) : (raise e s).ic = s.ic := rfl

@[simp] theorem raise_pending (e : Event) (s : State) : (raise e s).pending = s.pending := rfl

@[simp] theorem suspect_plu (p : Port) (c : Cause) (s : State) : (suspect p c s).plu = s.plu := rfl

@[simp] theorem suspect_startWindow (p : Port) (c : Cause) (s : State) : (suspect p c s).startWindow = s.startWindow := rfl

@[simp] theorem suspect_fillNext (p : Port) (c : Cause) (s : State) : (suspect p c s).fillNext = s.fillNext := rfl

@[simp] theorem suspect_oc (p : Port) (c : Cause) (s : State) : (suspect p c s).oc = s.oc := rfl

@[simp] theorem suspect_au (p : Port) (c : Cause) (s : State) : (suspect p c s).au = s.au := rfl

@[simp] theorem suspect_dct (p : Port) (c : Cause) (s : State) : (suspect p c s).dct = s.dct := rfl

@[simp] theorem suspect_tc (p : Port) (c : Cause) (s : State) : (suspect p c s).tc = s.tc := rfl

@[simp] theorem suspect_ic (p : Port) (c : Cause) (s : State) : (suspect p c s).ic = s.ic := rfl

@[simp] theorem suspect_pending (p : Port) (c : Cause) (s : State) : (suspect p c s).pending = s.pending := rfl

@[simp] theorem finish_plu (seq kind : Byte) (r : AnsResult) (fl : MiFlags) (b : List Byte) (s : State) : (finish seq kind r fl b s).plu = s.plu := rfl

@[simp] theorem finish_sup (seq kind : Byte) (r : AnsResult) (fl : MiFlags) (b : List Byte) (s : State) : (finish seq kind r fl b s).sup = s.sup := rfl

@[simp] theorem finish_startWindow (seq kind : Byte) (r : AnsResult) (fl : MiFlags) (b : List Byte) (s : State) : (finish seq kind r fl b s).startWindow = s.startWindow := rfl

@[simp] theorem finish_fillNext (seq kind : Byte) (r : AnsResult) (fl : MiFlags) (b : List Byte) (s : State) : (finish seq kind r fl b s).fillNext = s.fillNext := rfl

@[simp] theorem finish_oc (seq kind : Byte) (r : AnsResult) (fl : MiFlags) (b : List Byte) (s : State) : (finish seq kind r fl b s).oc = s.oc := rfl

@[simp] theorem finish_au (seq kind : Byte) (r : AnsResult) (fl : MiFlags) (b : List Byte) (s : State) : (finish seq kind r fl b s).au = s.au := rfl

@[simp] theorem finish_dct (seq kind : Byte) (r : AnsResult) (fl : MiFlags) (b : List Byte) (s : State) : (finish seq kind r fl b s).dct = s.dct := rfl

@[simp] theorem finish_tc (seq kind : Byte) (r : AnsResult) (fl : MiFlags) (b : List Byte) (s : State) : (finish seq kind r fl b s).tc = s.tc := rfl

@[simp] theorem finish_ic (seq kind : Byte) (r : AnsResult) (fl : MiFlags) (b : List Byte) (s : State) : (finish seq kind r fl b s).ic = s.ic := rfl

@[simp] theorem finish_pending (seq kind : Byte) (r : AnsResult) (fl : MiFlags) (b : List Byte) (s : State) : (finish seq kind r fl b s).pending = s.pending := rfl

@[simp] theorem beginRequest_plu (seq kind : Byte) (s : State) : (beginRequest seq kind s).plu = s.plu := rfl

@[simp] theorem beginRequest_sup (seq kind : Byte) (s : State) : (beginRequest seq kind s).sup = s.sup := rfl

@[simp] theorem beginRequest_startWindow (seq kind : Byte) (s : State) : (beginRequest seq kind s).startWindow = s.startWindow := rfl

@[simp] theorem beginRequest_fillNext (seq kind : Byte) (s : State) : (beginRequest seq kind s).fillNext = s.fillNext := rfl

@[simp] theorem beginRequest_oc (seq kind : Byte) (s : State) : (beginRequest seq kind s).oc = s.oc := rfl

@[simp] theorem beginRequest_au (seq kind : Byte) (s : State) : (beginRequest seq kind s).au = s.au := rfl

@[simp] theorem beginRequest_dct (seq kind : Byte) (s : State) : (beginRequest seq kind s).dct = s.dct := rfl

@[simp] theorem beginRequest_tc (seq kind : Byte) (s : State) : (beginRequest seq kind s).tc = s.tc := rfl

@[simp] theorem beginRequest_ic (seq kind : Byte) (s : State) : (beginRequest seq kind s).ic = s.ic := rfl

@[simp] theorem beginRequest_pending (seq kind : Byte) (s : State) : (beginRequest seq kind s).pending = s.pending := rfl

@[simp] theorem raiseIf_plu (c : Bool) (e : Event) (s : State) : (raiseIf c e s).plu = s.plu := by
  simp only [raiseIf]
  split <;> rfl

@[simp] theorem raiseIf_sup (c : Bool) (e : Event) (s : State) : (raiseIf c e s).sup = s.sup := by
  simp only [raiseIf]
  split <;> rfl

@[simp] theorem raiseIf_startWindow (c : Bool) (e : Event) (s : State) : (raiseIf c e s).startWindow = s.startWindow := by
  simp only [raiseIf]
  split <;> rfl

@[simp] theorem raiseIf_fillNext (c : Bool) (e : Event) (s : State) : (raiseIf c e s).fillNext = s.fillNext := by
  simp only [raiseIf]
  split <;> rfl

@[simp] theorem raiseIf_oc (c : Bool) (e : Event) (s : State) : (raiseIf c e s).oc = s.oc := by
  simp only [raiseIf]
  split <;> rfl

@[simp] theorem raiseIf_au (c : Bool) (e : Event) (s : State) : (raiseIf c e s).au = s.au := by
  simp only [raiseIf]
  split <;> rfl

@[simp] theorem raiseIf_dct (c : Bool) (e : Event) (s : State) : (raiseIf c e s).dct = s.dct := by
  simp only [raiseIf]
  split <;> rfl

@[simp] theorem raiseIf_tc (c : Bool) (e : Event) (s : State) : (raiseIf c e s).tc = s.tc := by
  simp only [raiseIf]
  split <;> rfl

@[simp] theorem raiseIf_ic (c : Bool) (e : Event) (s : State) : (raiseIf c e s).ic = s.ic := by
  simp only [raiseIf]
  split <;> rfl

@[simp] theorem raiseIf_pending (c : Bool) (e : Event) (s : State) : (raiseIf c e s).pending = s.pending := by
  simp only [raiseIf]
  split <;> rfl

@[simp] theorem setEpoch_plu (v : Epoch) (s : State) : (setEpoch v s).plu = s.plu := by
  simp only [setEpoch, raiseIf]
  split <;> rfl

@[simp] theorem setEpoch_sup (v : Epoch) (s : State) : (setEpoch v s).sup = s.sup := by
  simp only [setEpoch, raiseIf]
  split <;> rfl

@[simp] theorem setEpoch_startWindow (v : Epoch) (s : State) : (setEpoch v s).startWindow = s.startWindow := by
  simp only [setEpoch, raiseIf]
  split <;> rfl

@[simp] theorem setEpoch_fillNext (v : Epoch) (s : State) : (setEpoch v s).fillNext = s.fillNext := by
  simp only [setEpoch, raiseIf]
  split <;> rfl

@[simp] theorem setEpoch_au (v : Epoch) (s : State) : (setEpoch v s).au = s.au := by
  simp only [setEpoch, raiseIf]
  split <;> rfl

@[simp] theorem setEpoch_dct (v : Epoch) (s : State) : (setEpoch v s).dct = s.dct := by
  simp only [setEpoch, raiseIf]
  split <;> rfl

@[simp] theorem setEpoch_tc (v : Epoch) (s : State) : (setEpoch v s).tc = s.tc := by
  simp only [setEpoch, raiseIf]
  split <;> rfl

@[simp] theorem setEpoch_ic (v : Epoch) (s : State) : (setEpoch v s).ic = s.ic := by
  simp only [setEpoch, raiseIf]
  split <;> rfl

@[simp] theorem setEpoch_pending (v : Epoch) (s : State) : (setEpoch v s).pending = s.pending := by
  simp only [setEpoch, raiseIf]
  split <;> rfl

@[simp] theorem setEpoch_oc (v : Epoch) (s : State) : (setEpoch v s).oc = { s.oc with emap := v } := by
  simp only [setEpoch, raiseIf]
  split <;> rfl

end Sys2Proof.Machine
end

