-- ==== Sys2Proof/Laws/Ops.lean ====
section
/-! SUPPORT. What the shared operations do, once each, in the form that proofs cite instead of unfolding them. -/

namespace Sys2Proof.Machine

/-! ### Folds -/

/-- A fold keeps what each of its steps keeps. -/
theorem foldl_keeps {α β : Type} (P : β → Prop) (f : β → α → β) (h : ∀ b a, P b → P (f b a)) (l : List α) (b : β)
    (hb : P b) : P (l.foldl f b) := by
  induction l generalizing b with
  | nil => exact hb
  | cons a l ih => exact ih (f b a) (h b a hb)

/-! ### Due steps -/

/-- Settling changes nothing when nothing that may be done is due. -/
theorem settleFor_of_none {held : Option Port} {s : State} (h : nextDueHolding held s = none) (n : Nat) :
    settleFor held n s = s := by
  cases n with
  | zero => rfl
  | succ n => simp only [settleFor, h]

/-- Settling a quiet state changes nothing. -/
theorem settle_of_quiet {s : State} (h : Quiet s) : settle s = s := settleFor_of_none h _

/-- Settling but for one report changes nothing when nothing else is due. -/
theorem settleHolding_of_none {p : Port} {s : State} (h : nextDueHolding (some p) s = none) : settleHolding p s = s :=
  settleFor_of_none h _

/-- Settling keeps what every due step keeps. -/
theorem settleFor_keeps (P : State → Prop) (held : Option Port)
    (h : ∀ d s, nextDueHolding held s = some d → P s → P (runDue d s)) (n : Nat) (s : State) (hs : P s) :
    P (settleFor held n s) := by
  induction n generalizing s with
  | zero => exact hs
  | succ n ih =>
    simp only [settleFor]
    split
    · next d hd => exact ih _ (h d s hd hs)
    · exact hs

theorem settle_keeps (P : State → Prop) (h : ∀ d s, nextDue s = some d → P s → P (runDue d s)) (s : State) (hs : P s) :
    P (settle s) := settleFor_keeps P none h _ s hs

theorem settleHolding_keeps (P : State → Prop) (p : Port)
    (h : ∀ d s, nextDueHolding (some p) s = some d → P s → P (runDue d s)) (s : State) (hs : P s) :
    P (settleHolding p s) := settleFor_keeps P (some p) h _ s hs

/-- What holds of the first step that is due holds of a step that is due. -/
theorem dueIf_some {c : Bool} {d x : Due} (h : dueIf c d = some x) : c = true ∧ d = x := by
  cases c <;> simp_all [dueIf]

theorem dueIf_none {c : Bool} {d : Due} : dueIf c d = none ↔ c = false := by
  cases c <;> simp [dueIf]

/-- A state is quiet when none of the conditions for an internal step holds. -/
theorem quiet_iff (s : State) :
    Quiet s ↔
      s.ic.served.isEmpty = true ∧ s.oc.admitDue = false ∧ s.ic.beginDue = false ∧ s.dct.bridgeReady = none ∧
        s.dct.portIsClear .a = false ∧ s.dct.portIsClear .b = false ∧ s.queueReportDue .a = false ∧
        s.queueReportDue .b = false ∧ s.oc.commitDue = none ∧ (s.sup.get .a).stallDue = false ∧
        (s.sup.get .b).stallDue = false ∧ s.depthDue .a = false ∧ s.depthDue .b = false ∧ s.au.windowOver = false := by
  simp [Quiet, nextDue, nextDueHolding, dueIf_none]

/-- Why a step is due. -/
theorem nextDueHolding_some {held : Option Port} {s : State} {d : Due} (h : nextDueHolding held s = some d) :
    match d with
    | .ticketServed => s.ic.served.isEmpty = false
    | .stepAdmitted => s.oc.admitDue = true
    | .cycleBegin => s.ic.beginDue = true
    | .bridgeIssue c => s.dct.bridgeReady = some c
    | .portClear p => s.dct.portIsClear p = true ∧ held ≠ some p
    | .emptyReport p => s.queueReportDue p = true
    | .commit t => s.oc.commitDue = some t
    | .stall p => (s.sup.get p).stallDue = true
    | .depth p => s.depthDue p = true
    | .windowEnd => s.au.windowOver = true := by
  simp only [nextDueHolding, Option.orElse_eq_orElse, Option.orElse_eq_or, Option.or_eq_some_iff,
    Option.map_eq_some_iff] at h
  rcases h with h | ⟨_, h | ⟨_, h | ⟨_, h | ⟨_, h | ⟨_, h | ⟨_, h | ⟨_, h | ⟨_, h | ⟨_, h | ⟨_, h | ⟨_, h | ⟨_, h | ⟨_, h⟩⟩⟩⟩⟩⟩⟩⟩⟩⟩⟩⟩⟩
  case inr.inr.inr.inl => obtain ⟨a, ha, rfl⟩ := h; exact ha
  case inr.inr.inr.inr.inr.inr.inr.inr.inl => obtain ⟨a, ha, rfl⟩ := h; exact ha
  all_goals (obtain ⟨hc, rfl⟩ := dueIf_some h; simpa using hc)

theorem nextDue_some {s : State} {d : Due} (h : nextDue s = some d) :
    match d with
    | .ticketServed => s.ic.served.isEmpty = false
    | .stepAdmitted => s.oc.admitDue = true
    | .cycleBegin => s.ic.beginDue = true
    | .bridgeIssue c => s.dct.bridgeReady = some c
    | .portClear p => s.dct.portIsClear p = true
    | .emptyReport p => s.queueReportDue p = true
    | .commit t => s.oc.commitDue = some t
    | .stall p => (s.sup.get p).stallDue = true
    | .depth p => s.depthDue p = true
    | .windowEnd => s.au.windowOver = true := by
  have h' := nextDueHolding_some (held := none) h
  cases d <;> first | exact h' | exact h'.1

/-- A quiet state is one in which nothing is due, whatever is held back. -/
theorem nextDueHolding_of_quiet {s : State} (h : Quiet s) (held : Option Port) : nextDueHolding held s = none := by
  obtain ⟨h1, h2, h3, h4, h5, h6, h7, h8, h9, h10, h11, h12, h13, h14⟩ := (quiet_iff s).mp h
  simp [nextDueHolding, dueIf_none, *]

/-! ### Messages -/

theorem Plu.handOver_room {u : Plu} (m : OutMsg) (h : u.outQueue.length < 192) :
    u.handOver m = { u with outQueue := u.outQueue ++ [m] } := by
  simp [Plu.handOver, Config.outQueueMax, h]

theorem Plu.handOver_full {u : Plu} (m : OutMsg) (h : ¬ u.outQueue.length < 192) :
    u.handOver m = { u with outDiscard := satSucc u.outDiscard } := by
  simp [Plu.handOver, Config.outQueueMax, h]

/-- R20: handing over keeps the queue at 192 messages. -/
theorem Plu.handOver_bounded {u : Plu} (m : OutMsg) (h : u.outQueue.length ≤ 192) :
    (u.handOver m).outQueue.length ≤ 192 := by
  by_cases hr : u.outQueue.length < 192
  · rw [Plu.handOver_room m hr]; simp; omega
  · rw [Plu.handOver_full m hr]; exact h

@[simp] theorem handOver_plu (p : Port) (m : OutMsg) (s : State) :
    (handOver p m s).plu = s.plu.set p ((s.plu.get p).handOver m) := rfl

/-- R20: what handing over a message does: the queue takes it, or the discard is counted. -/
theorem handOver_spec (p : Port) (m : OutMsg) (s : State) :
    ((handOver p m s).plu.get p).outQueue =
        (if (s.plu.get p).outQueue.length < 192 then (s.plu.get p).outQueue ++ [m] else (s.plu.get p).outQueue) ∧
      (handOver p m s).plu.get p.peer = s.plu.get p.peer := by
  constructor
  · rw [handOver_plu, PerPort.get_set_self]
    by_cases hr : (s.plu.get p).outQueue.length < 192
    · rw [Plu.handOver_room m hr]; simp [hr]
    · rw [Plu.handOver_full m hr]; simp [hr]
  · simp

/-! ### The extent table -/

@[simp] theorem mapExtents_length (pick : Nat → Bool) (g : Extent → Extent) (o : Oc) :
    (mapExtents pick g o).extents.length = o.extents.length := by
  simp [mapExtents]

/-- An entry after some were changed. -/
theorem mapExtents_get (pick : Nat → Bool) (g : Extent → Extent) (o : Oc) (x : Nat) :
    (mapExtents pick g o).extents[x]? = (o.extents[x]?).map fun e => if pick x then g e else e := by
  simp [mapExtents]

/-- Changing entries leaves the rest of the Ownership Controller alone. -/
theorem mapExtents_rest (pick : Nat → Bool) (g : Extent → Extent) (o : Oc) :
    mapExtents pick g o = { o with extents := (mapExtents pick g o).extents } := rfl

/-! ### Tickets -/

theorem takeTicket_halted {t : Taker} {s : State} (h : s.ic.bridge = .halted) :
    takeTicket t s = s.onIc fun c => { c with served := c.served ++ [⟨t, false⟩] } := by
  simp [takeTicket, State.onIc, Ic.takeTicket, h]

theorem takeTicket_idle {t : Taker} {s : State} (h : s.ic.bridge ≠ .halted) (hc : s.ic.cycle = .idle) :
    takeTicket t s =
      s.onIc fun c => { c with tickets := c.tickets ++ [⟨c.generation + 1, t⟩], beginDue := true } := by
  simp [takeTicket, State.onIc, Ic.takeTicket, h, hc]

theorem takeTicket_busy {t : Taker} {s : State} (h : s.ic.bridge ≠ .halted) (hc : s.ic.cycle ≠ .idle) :
    takeTicket t s =
      s.onIc fun c => { c with tickets := c.tickets ++ [⟨c.generation + 1, t⟩], dirty := true } := by
  simp [takeTicket, State.onIc, Ic.takeTicket, h, hc]

/-! ### Fences -/

/-- R139: a fence of a port already FENCED does nothing. -/
theorem fencePort_fenced {p : Port} {c : FenceCause} {s : State} (h : s.port p = .fenced) : fencePort p c s = s := by
  simp [fencePort, h]

/-- R139: a fence while the bridge is STARTING does nothing. -/
theorem fencePort_starting {p : Port} {c : FenceCause} {s : State} (h : s.ic.bridge = .starting) :
    fencePort p c s = s := by
  simp [fencePort, h]

/-- R133: a port that is not judged is left alone. -/
theorem judge_of_not_judged {p : Port} {s : State} (h : (s.sup.get p).judged = false) : judge p s = s := by
  simp [judge, h]

/-- R133: "A peer that is itself SUSPECT, HELD, PARKING, FENCED, PARKED, LINKED or OFFLINE is not heard". -/
theorem judge_of_peer_absent {p : Port} {s : State} (h : s.port p.peer ≠ .enrolled) : judge p s = s := by
  simp [judge, h]

/-- R133, R134: the judgement of a port's peer does what `PeerJudged` says. -/
theorem judge_peerJudged (p : Port) (s : State) : PeerJudged p s (judge p.peer s) := by
  simp only [PeerJudged, judge, State.viewOf, Supervisor.judged, Port.peer_peer, State.port, State.cfg]
  refine ⟨?_, ?_⟩
  · rintro (h | h) <;> simp_all
  · intro hp hj
    have hj' : ((s.sup.get p.peer).state == .suspect && (s.sup.get p.peer).confirmed ||
        (s.sup.get p.peer).state == .held) = true := by
      rcases hj with h | ⟨h, hc⟩ <;> simp [*]
    refine ⟨fun hv => by simp [hj', hp, hv], fun hv ha => ?_, fun hv ha => ?_⟩ <;>
      cases h : (s.plu.get p).settled.view <;> simp [hj', hp, ha, h] at hv ⊢

/-- R112, R114: an entry of the part's own that ends by an abort or by a reset ends as one that failed. -/
theorem routeResult_bridge_failed {e : Entry} (h : e.origin = .bridge) {x y : Ending} (hx : x.good = false)
    (hy : y.good = false) (s : State) : routeResult e x s = routeResult e y s := by
  simp [routeResult, h, hx, hy]

/-! ### Set ids and frames -/

/-- R144: the set id taken is the first value, from the start on, that is not passed over. -/
theorem freeSetId_first (used : List Word) (n : Nat) : ∀ (id : Word) (ids : Nat → Word) (k : Nat), ids 0 = id →
    (∀ j, ids (j + 1) = succSetId (ids j)) → k ≤ n → (∀ j, j < k → used.contains (ids j) = true) →
    used.contains (ids k) = false → freeSetId used n id = ids k := by
  induction n with
  | zero =>
    intro id ids k h0 _ hk _ _
    obtain rfl : k = 0 := by omega
    simp [freeSetId, h0]
  | succ n ih =>
    intro id ids k h0 hs hk hj hf
    cases k with
    | zero =>
      rw [h0] at hf ⊢
      unfold freeSetId
      rw [hf]
      rfl
    | succ k =>
      have h := hj 0 (by omega)
      rw [h0] at h
      simp only [freeSetId, h, if_true]
      exact ih _ (fun j => ids (j + 1)) k (by rw [hs, h0]) (fun j => hs _) (by omega) (fun j h => hj _ (by omega)) hf

/-- R1: what is placed in a frame fits the room that it has. -/
theorem fillFrame_length_le (n : Nat) : ∀ (room : Nat) (first : Option Nat) (payload : List Byte) (u : Plu),
    (fillFrame n room first payload u).2.2.length ≤ payload.length + room := by
  induction n with
  | zero => intro room first payload u; simp [fillFrame]
  | succ n ih =>
    intro room first payload u
    unfold fillFrame
    split
    · simp
    · dsimp only
      split
      · simp
      · split
        · rename_i h
          refine Nat.le_trans (ih _ _ _ _) ?_
          simp only [List.length_append]; omega
        · simp only [List.length_append, List.length_take]; omega

/-- R1: a frame sent has 1,024 payload bytes. -/
theorem OutFrame.stream_length (f : OutFrame) (h : f.payload.length ≤ 1024) : f.stream.length = 1024 := by
  simp [OutFrame.stream, Config.payloadBytes]; omega

/-- R1: the payload bytes of a frame sent begin with those of its messages. -/
theorem OutFrame.stream_take (f : OutFrame) : f.stream.take f.payload.length = f.payload := by
  simp [OutFrame.stream]

/-! ### Claims -/

/-- R73: the settlement of the one open claim does what the owners of its extents say. -/
theorem settleClaim_settled {c : Claim} {s : State} (h : s.oc.claims = [c]) : ClaimSettled c s (settleClaim c s) := by
  unfold ClaimSettled
  simp only [h]
  refine ⟨?_, ?_, ?_⟩
  · rintro ⟨e, he, ho⟩
    unfold settleClaim
    rw [if_pos (by simp only [Oc.run, List.any_eq_true]; exact ⟨e, he, by simp [Claim.holder, ho]⟩)]
    simp [askHolder, handOver, State.onPlu, changeClaim, State.onOc, h, Claim.holder, State.cfg]
  · intro hno ⟨e, he, ho⟩
    have h1 : ¬ ((s.oc.run c.first c.count).any fun e => e.owner == some c.claimant.peer) = true := by
      simp only [Oc.run, List.any_eq_true]; rintro ⟨x, hx, hp⟩; exact hno x hx (by simpa using hp)
    have h2 : ((s.oc.run c.first c.count).any fun e => e.owner == none) = true := by
      simp only [Oc.run, List.any_eq_true]; exact ⟨e, he, by simp [ho]⟩
    have hw : settleClaim c s =
        if s.saturated then raise .epochExhausted (endClaim c .exhausted noFlags s)
        else transferClaim c (s.oc.unowned c.first c.count) s := by
      unfold settleClaim
      rw [if_neg (by simpa [Claim.holder] using h1), if_pos h2]
    refine ⟨?_, ?_⟩
    · intro hs
      have hsat : s.saturated = true := by simp [State.saturated, hs, Config.maxEpoch]
      rw [hw, hsat]
      simp [raise, endClaim, answer, handOver, State.onPlu, closeClaim, State.onOc, State.onMi, h, Event.mask, Event.bit]
    · intro hs
      have hsat : s.saturated = false := by simp [State.saturated, Config.maxEpoch]; exact hs
      refine ⟨s.oc.unowned c.first c.count, ?_, ?_, ?_⟩
      · unfold Oc.unowned; exact ((List.pairwise_lt_range).filter _).filter _
      · intro x; unfold Oc.unowned; simp only [inRun, List.mem_filter, List.mem_range]
        constructor
        · rintro ⟨⟨hl, hr⟩, hx⟩
          have := List.getElem?_eq_getElem hl
          rw [this] at hx
          simp at hr hx
          exact ⟨hr.1, hr.2, _, this, hx⟩
        · rintro ⟨ha, hb, e, he, ho⟩
          exact ⟨⟨(List.getElem?_eq_some_iff.mp he).1, by simp [ha, hb]⟩, by rw [he]; simp [ho]⟩
      · rw [hw, hsat]
        simp [transferClaim, startStep, changeClaim, State.onOc, h, mapExtents]
  · intro hall
    have h1 : ¬ ((s.oc.run c.first c.count).any fun e => e.owner == some c.claimant.peer) = true := by
      simp only [Oc.run, List.any_eq_true]; rintro ⟨x, hx, hp⟩; have := hall x hx
      simp [this] at hp; cases hc : c.claimant <;> simp [hc, Port.peer] at hp
    have h2 : ¬ ((s.oc.run c.first c.count).any fun e => e.owner == none) = true := by
      simp only [Oc.run, List.any_eq_true]; rintro ⟨x, hx, hp⟩; have := hall x hx; simp [this] at hp
    unfold settleClaim
    rw [if_neg (by simpa [Claim.holder] using h1), if_neg h2]
    simp [endClaim, answer, handOver, State.onPlu, closeClaim, State.onOc, h]

/-! ### Fields of several bytes -/

@[simp] theorem leBytes_length (n v : Nat) : (leBytes n v).length = n := by
  induction n generalizing v with
  | zero => rfl
  | succ n ih => simp [leBytes, ih]

/-- R23: a number that fits its field is read back from its bytes. -/
theorem leNat_leBytes (n v : Nat) (h : v < 256 ^ n) : leNat (leBytes n v) = v := by
  induction n generalizing v with
  | zero => simp at h; subst h; rfl
  | succ n ih =>
    have hv : v / 256 < 256 ^ n := by
      rw [Nat.pow_succ] at h
      exact Nat.div_lt_of_lt_mul (by omega)
    simp only [leBytes, leNat, ih _ hv, BitVec.toNat_ofNat]
    omega

end Sys2Proof.Machine
end

