-- ==== Sys2Proof/Tests/Slice0.lean ====
section
/-! SUPPORT. The author's own tests: the check of well-formedness, worked values of the manual, small steps, and for every statement with hypotheses a concrete state that meets them. -/

namespace Sys2Proof.Tests
open Sys2Proof Sys2Proof.Machine

/-! ### States -/

/-- A link that is ALIGNED, with a server that runs and sees its peer. -/
def pluUp (id : Word) : Plu :=
  { Plu.reset with align := .aligned, run := 3, runMarker := 7, phase := some 0, expected := some 0,
                   settled := ⟨id, .running, 5, .seen⟩ }

/-- A supervisor of a port in a state, with a recorded identity. -/
def supIn (st : PortState) (id : Word) : Supervisor := { Supervisor.reset with state := st, identity := id }

/-- An extent. -/
def ext (o : Option Port) (e : Epoch) : Extent := ⟨o, .shared, e, 0, none, none⟩

/-- Four extents: two of A, one of B, one of NONE. -/
def exts : List Extent := [ext (some .a) 5, ext (some .a) 3, ext (some .b) 7, ext none 0]

/-- A part in SERVICE: a drive of 1088 blocks of 512 bytes with eight tags, so V = 1024 and k = 8; both ports ENROLLED. -/
def svc : State :=
  { State.reset with
    plu := ⟨pluUp 0x11, pluUp 0x12⟩
    sup := ⟨supIn .enrolled 0x11, supIn .enrolled 0x12⟩
    oc := { Oc.reset with visible := 1024, shift := 8, extents := exts, emap := 7, ownerId := ⟨0x11, 0x12⟩ }
    au := { Au.reset with depth := ⟨16, 16⟩, window := some ⟨32, ⟨16, 16⟩⟩ }
    dct := { Dct.reset true with drive := .ready, firstAttach := some (1088, 512), depth := 8 }
    ic := { Ic.reset with bridge := .service, generation := 3 } }

/-- The state after a command. -/
def after (c : Instr) (s : State) : State :=
  match exec c s with
  | .next t => t
  | .fault _ => s
  | .refused _ => s

/-- A header of a length and a reference. -/
def hdr (len ref : Word) : Header := ⟨0, len, ref⟩


/-! ### States for the witnesses -/

/-- The part with its bridge in a state. -/
def inBridge (b : Bridge) (s : State) : State := s.onIc fun c => { c with bridge := b }

/-- The part with the greatest map epoch. -/
def sat (s : State) : State := s.onOc fun o => { o with emap := BitVec.allOnes 32 }

/-- The part with an extent table. -/
def withExts (es : List Extent) (s : State) : State := s.onOc fun o => { o with extents := es }

/-- The part with its drive command table. -/
def withEntries (es : List Entry) (s : State) : State := s.onDct fun d => { d with entries := es }

/-- The part with its settings changed. -/
def withSettings (f : Settings → Settings) (s : State) : State := s.onMi fun m => { m with settings := f m.settings }

/-- An entry of a port at the drive: one block at LBA 0. -/
def ent (tag : Nat) (p : Port) (op : Op) : Entry :=
  ⟨tag, .server p, BitVec.ofNat 16 tag, op, (if op = .flush then none else some ⟨0, 1, 0, 0⟩), 7, BitVec.ofNat 64 tag, 0,
    some 20, none, none⟩

/-- A bridge command at the drive, under the bridge tag 7. -/
def bridgeEnt (op : Op) : Entry := ⟨7, .bridge, 0, op, none, 0, 9, 0, some 20, none, none⟩

/-- The entry with its abort sent. -/
def aborting (e : Entry) : Entry := { e with cmdTimer := none, abort := some 2000 }

/-- An outbound message. -/
def msg : OutMsg := .completion 1 .good 0

/-- A frame with a marker and a check code that agrees or not, and no message. -/
def frm (m : Nat) (good : Bool) : Frame := ⟨m, good, none, 0, [], 0⟩

/-- The state with one PLU changed. -/
def plu (p : Port) (f : Plu → Plu) (s : State) : State := s.onPlu p f

/-- A link DOWN, with a search run of two frames, the last at marker 1. -/
def down2 (p : Port) (s : State) : State := s.onPlu p fun u => { u with align := .down, run := 2, runMarker := 1 }

/-- A mark. -/
def marked (k : StepKind) (d : Option Port) (e : Extent) : Extent := { e with mark := some ⟨k, d⟩ }

/-- A queue record: a WRITE, a READ or a FLUSH of one block in extent 0. -/
def qrec (op : Op) (tag : Word) : QueueRecord := ⟨tag, op, if op = .flush then none else some ⟨0, 1, 0, 0⟩, 7⟩

/-- The part with records queued at a port. -/
def queued (p : Port) (qs : List QueueRecord) (s : State) : State := s.onAu fun a => { a with queue := a.queue.set p qs }

/-- A claim of A on extent 2 of B, in ASKING. -/
def claimA : Claim := ⟨4, .a, 2, 1, 9, some 2000, .asking, none, false⟩

/-- A part with that claim open. -/
def claimed : State :=
  svc.onOc fun o => { o with claims := [claimA], lastClaimId := 4,
                             extents := o.extents.set 2 { ext (some .b) 7 with claim := some 4 } }

/-- A transfer record over some extents. -/
def stepOf (k : StepKind) (dest : Option (Option Port)) (xs : List Nat) (p : Option Port) (r : Option Word) (st : StepStage) :
    TransferStep := ⟨0, k, dest, xs, p, r, st, none⟩

/-- A part with one transfer record. -/
def withStep (t : TransferStep) (s : State) : State := s.onOc fun o => { o with steps := [t], nextStep := 1 }

/-- A part with one served ticket. -/
def withServed (t : Taker) (d : Bool) (s : State) : State := s.onIc fun c => { c with served := [⟨t, d⟩] }

/-- An intent entry with an outcome. -/
def intent (o : IntentOutcome) : IntentEntry := ⟨1, 0, 1, 7, 5, o⟩

/-- A part with an intent set of port A. -/
def withSet (id : Word) (es : List IntentEntry) (s : State) : State :=
  s.onTc fun t => { t with intents := t.intents ++ [⟨id, .a, es⟩] }

/-! ### Witnesses: for every statement with hypotheses, states and operands that meet them -/

theorem test_witness_StepRunsFrontCommand :
    svc.pending = [] ∧ ({ svc with pending := [.frameSend, .readState 1] } : State).pending = .frameSend :: [.readState 1] := by decide

theorem test_witness_FullResetSetsEveryBlock : State.reset.dct.prsnLow = false ∧ svc.dct.prsnLow = true := by decide

/-- A queue that is one short of full and one that is full; each case of the turn; one message to place. -/
theorem test_witness_OutboundQueueAndTurn :
    (((plu .a (fun u => { u with outQueue := List.replicate 191 msg }) svc).plu.get .a).outQueue.length < 192 ∧
      192 ≤ ((plu .a (fun u => { u with outQueue := List.replicate 192 msg }) svc).plu.get .a).outQueue.length) ∧
    (∀ t ∈ [Turn.data, Turn.queue], ∀ u ∈ [{ Plu.reset with dataList := [.transferReady 1 2], outQueue := [msg], turn := t }],
      u.tx = none ∧ u.dataList ≠ [] ∧ u.outQueue ≠ [] ∧ u.turn = t) ∧
    (Plu.reset.tx = none ∧ Plu.reset.dataList = [] ∧ Plu.reset.outQueue = []) ∧
    (∀ s ∈ [plu .a (fun u => { u with outQueue := [msg] }) svc], nextDue s = none ∧ (s.plu.get .a).tx = none ∧
      (s.plu.get .a).dataList = [] ∧ (s.plu.get .a).outQueue = [msg] ∧ msg.bytes.length ≤ 1024 ∧
      (s.plu.get .a).readDone = []) := by
  decide +kernel

/-- Search frames that do not count (a bad one, a marker of no position), that begin a run, continue one and complete
one, from DOWN and from LOSING, under ports in each kind of state. -/
theorem test_witness_AlignmentSearch :
    (Quiet (down2 .a svc) ∧ ((down2 .a svc).plu.get .a).align ≠ .aligned ∧
      ¬((frm 2 false).good = true ∧ (frm 2 false).marker < 8) ∧ ¬((frm 8 true).good = true ∧ (frm 8 true).marker < 8) ∧
      (frm 7 true).good = true ∧ (frm 7 true).marker < 8 ∧
      (frm 7 true).marker ≠ (((down2 .a svc).plu.get .a).runMarker + 1) % 8) ∧
    (∀ s ∈ [plu .a (fun u => { u with align := .losing, run := 1, runMarker := 7 }) svc], nextDue s = none ∧
      (s.plu.get .a).align = .losing ∧ (frm 0 true).marker = ((s.plu.get .a).runMarker + 1) % 8 ∧ (s.plu.get .a).run = 1) ∧
    (∀ s ∈ [plu .a (fun u => { u with align := .losing, run := 2, runMarker := 7 }) svc], nextDue s = none ∧
      (s.plu.get .a).align = .losing ∧ (frm 0 true).marker = ((s.plu.get .a).runMarker + 1) % 8 ∧ (s.plu.get .a).run = 2) ∧
    (∀ st ∈ [PortState.offline, .linked, .enrolled, .parking, .parked, .fenced],
      ∀ s ∈ [down2 .a (setPort .a st svc), inBridge .starting (down2 .a (setPort .a st svc))],
      nextDue s = none ∧ s.port .a = st ∧ (s.plu.get .a).align = .down ∧ (s.plu.get .a).run = 2 ∧
        (frm 2 true).marker = ((s.plu.get .a).runMarker + 1) % 8) ∧
    (∀ st ∈ [PortState.suspect, .held], ∀ c ∈ [Cause.link, .stall],
      ∀ s ∈ [down2 .a (svc.onSup .a fun u => { u with state := st, cause := c })],
      nextDue s = none ∧ s.port .a = st ∧ (s.sup.get .a).cause = c ∧ (s.sup.get Port.a.peer).judged = false ∧
        (s.plu.get .a).settled.health = .running ∧ (s.plu.get .a).run = 2) := by
  unfold Quiet; decide

/-- A good frame at the expected marker, a marker error, a bad frame at the threshold; then the third error of eight, and
a bad frame one above the threshold under each action. -/
theorem test_witness_AlignedFrameJudged :
    (Quiet svc ∧ (svc.plu.get .a).align = .aligned ∧ (svc.plu.get .a).expected = some (frm 0 true).marker ∧
      (frm 0 true).firstStart = none ∧ (svc.plu.get .a).rx = .seek ∧ criterionMet svc.cfg.criterion [false] = false ∧
      [false] = ((svc.plu.get .a).history ++ [false]).drop ((svc.plu.get .a).history.length + 1 - 16) ∧
      ¬((frm 1 true).marker < 8 ∧ (svc.plu.get .a).expected = some (frm 1 true).marker) ∧
      criterionMet svc.cfg.criterion [true] = false) ∧
    (∀ s ∈ [plu .a (fun u => { u with checkErrors := 63 }) svc], nextDue s = none ∧
      min ((s.plu.get .a).checkErrors + 1) 80000 ≤ (s.plu.get .a).threshold) ∧
    (∀ s ∈ [plu .a (fun u => { u with history := [true, true] }) svc], nextDue s = none ∧
      criterionMet s.cfg.criterion (((s.plu.get .a).history ++ [true]).drop ((s.plu.get .a).history.length + 1 - 16)) = true) ∧
    (∀ x ∈ [CheckAction.report, .research], ∀ s ∈ [plu .a (fun u => { u with checkErrors := 64, action := x }) svc],
      nextDue s = none ∧ (s.plu.get .a).threshold < min ((s.plu.get .a).checkErrors + 1) 80000 ∧
        (s.plu.get .a).action = x ∧ criterionMet s.cfg.criterion [false] = false) := by
  unfold Quiet; decide

/-- The bytes of a STATE QUERY with reference 0102h. -/
def queryFrame : Frame := ⟨0, true, some 0, 1, [0x1B, 0, 6, 0, 0x02, 0x01, 0xEE, 0xEE], 0⟩

theorem test_witness_StreamTaken :
    (Quiet svc ∧ (svc.plu.get .a).align = .aligned ∧ (svc.plu.get .a).rx = .seek ∧
      (svc.plu.get .a).expected = some queryFrame.marker ∧ queryFrame.marker < 7 ∧ queryFrame.firstStart = some 0 ∧
      queryFrame.payload =
        [0x1B#8, 0#8, 6#8, 0#8, BitVec.setWidth 8 0x0102#16, BitVec.setWidth 8 (0x0102#16 >>> 8)] ++ [0xEE, 0xEE] ∧
      criterionMet svc.cfg.criterion [false] = false) ∧
    (6#16 ≤ (hdr 6 1).length ∧ (hdr 6 1).length ≤ 4106#16) ∧ (6#16 ≤ (hdr 4106 1).length ∧ (hdr 4106 1).length ≤ 4106#16) := by
  unfold Quiet; decide

theorem test_witness_FieldSettles :
    (5#8 ≠ 4#8 ∧ 2 ≤ 1 + 1) ∧ (5#8 ≠ 4#8 ∧ 1 + 1 < 3) ∧ (5#8 ≠ 4#8 ∧ 6#8 ≠ 5#8) := by decide

/-- Local positions 0, 6 and 7, with nothing to send. -/
theorem test_witness_FrameSent :
    ∀ n ∈ [0, 6, 7], ∀ s ∈ [plu .a (fun u => { u with localPos := n }) (plu .b (fun u => { u with localPos := n }) svc)],
      nextDue s = none ∧ (s.plu.get .a).localPos = n ∧ (s.plu.get .a).outQueue = [] ∧ (s.plu.get .a).dataList = [] ∧
        (s.plu.get .a).tx = none := by decide

/-- T_ll runs out under a port in every state; the end of a cycle for a port that counts and for ports that do not; the
limit reached in ENROLLED and in another state. -/
theorem test_witness_SuspicionBegins :
    (∀ st ∈ [PortState.offline, .linked, .enrolled, .suspect, .held, .parking, .parked, .fenced],
      ∀ s ∈ [plu .a (fun u => { u with align := .losing, tLl := some 40 }) (setPort .a st svc)],
      nextDue s = none ∧ (s.plu.get .a).align = .losing ∧ (s.plu.get .a).tLl.isSome = true ∧ s.port .a = st) ∧
    (∀ n ∈ [0, 4998, 4999], ∀ s ∈ [plu .a (fun u => { u with localPos := 7 }) (svc.onSup .a fun u => { u with stall := n })],
      nextDue s = none ∧ (s.plu.get .a).localPos = 7 ∧ s.port .a = .enrolled ∧ (s.plu.get .a).align ≠ .down ∧
        (s.plu.get .a).settled.health ≠ .leaving) ∧
    (∀ h ∈ [Health.leaving], ∀ s ∈ [plu .a (fun u => { u with localPos := 7, settled := ⟨0x11, h, 5, .seen⟩ }) svc],
      nextDue s = none ∧ (s.plu.get .a).settled.health = .leaving) ∧
    (∀ st ∈ [PortState.enrolled, .suspect], ((svc.onSup .a fun u => { u with state := st, stallDue := true }).sup.get .a).stallDue = true) := by decide

/-- A count at the threshold and one above it. -/
theorem test_witness_CheckErrorWindowEnds :
    (∀ s ∈ [plu .a (fun u => { u with checkErrors := 64, degraded := true }) svc], nextDue s = none ∧
      (s.plu.get .a).checkErrors ≤ (s.plu.get .a).threshold) ∧
    (∀ s ∈ [plu .a (fun u => { u with checkErrors := 65, degraded := true }) svc], nextDue s = none ∧
      (s.plu.get .a).threshold < (s.plu.get .a).checkErrors) := by decide

/-- One state for each test of a drive command, at the edge of each: lengths, tags 63 and 64, the last block of V and the
one after it, a tag in use, a queue of 15 and of 16 records. -/
theorem test_witness_DriveCommandAdmitted :
    ((hdr 17 1).length ≠ 18#16 ∧ (63#16 < (hdr 18 64).ref) ∧ (hdr 11 1).length ≠ 10#16 ∧ (hdr 18 63).ref ≤ 63#16) ∧
    (∀ b ∈ [Bridge.starting, .recovery, .halted], nextDue (inBridge b svc) = none ∧ (inBridge b svc).ic.bridge ≠ .service) ∧
    (∀ st ∈ [PortState.offline, .linked, .suspect, .held, .parking, .parked, .fenced],
      nextDue (setPort .a st svc) = none ∧ (setPort .a st svc).port .a ≠ .enrolled) ∧
    (Quiet svc ∧ svc.ic.bridge = .service ∧ svc.port .a = .enrolled ∧
      svc.oc.visible < (1023#48).toNat + (2#16).toNat ∧ (1023#48).toNat + (1#16).toNat ≤ svc.oc.visible ∧
      svc.tagInUse .a 63 = false ∧ (svc.au.queue.get .a).length < svc.au.depth.get .a) ∧
    (∀ s ∈ [queued .a [qrec .write 63] svc], nextDue s = none ∧ s.tagInUse .a 63 = true) ∧
    (∀ s ∈ [queued .a (List.replicate 15 (qrec .read 2)) svc], nextDue s = none ∧ s.tagInUse .a 63 = false ∧
      (s.au.queue.get .a).length < s.au.depth.get .a) ∧
    (∀ s ∈ [queued .a (List.replicate 16 (qrec .read 2)) svc], nextDue s = none ∧ s.tagInUse .a 63 = false ∧
      s.au.depth.get .a ≤ (s.au.queue.get .a).length) := by
  unfold Quiet; decide

/-- A WRITE of one block of 512 bytes: data inside it, data that runs past its end, data beyond it, data at another
offset. -/
theorem test_witness_WriteDataPassed :
    (∀ o ∈ [0, 511, 512], ∀ e ∈ [{ ent 0 .a .write with nextOffset := o }], ∀ s ∈ [withEntries [e] svc],
      nextDue s = none ∧ 11#16 ≤ (hdr 12 0).length ∧ (hdr 12 0).length ≤ 4106#16 ∧ e ∈ s.dct.entries ∧
        e.origin = .server .a ∧ e.op = .write ∧ e.serverTag = (hdr 12 0).ref ∧ e.range = some ⟨0, 1, 0, 0⟩ ∧
        e.nextOffset = (BitVec.ofNat 32 o).toNat ∧
        (∀ x ∈ s.dct.entries, x = e)) ∧
    (0 + 2 ≤ (1#16).toNat * svc.blockSize) ∧ (511 < (1#16).toNat * svc.blockSize ∧ (1#16).toNat * svc.blockSize < 511 + 2) ∧
    ((1#16).toNat * svc.blockSize ≤ 512) ∧
    (∀ s ∈ [withEntries [ent 0 .a .write] svc], ∀ x ∈ s.dct.entries, x.nextOffset ≠ (5#32).toNat) := by decide

/-- Share windows: only one head eligible, none, both with a port under pressure (15 of 31 grants had, one left), both
without. -/
theorem test_witness_ArbiterSelects :
    (∀ p ∈ [Port.a, .b], ∀ s ∈ [queued p [qrec .read 1] svc], s.eligible p = true ∧ s.eligible p.peer = false) ∧
    (svc.eligible .a = false ∧ svc.eligible .b = false) ∧
    (∀ g ∈ [(⟨15, 16⟩ : PerPort Nat), ⟨16, 15⟩], ∀ s ∈ [queued .b [qrec .read 1] (queued .a [qrec .read 1] svc)],
      ∀ t ∈ [s.onAu fun a => { a with w := 31, granted := g }], t.au.window = some ⟨32, ⟨16, 16⟩⟩ ∧
        t.au.granted.a + t.au.granted.b = t.au.w ∧ 16 + 16 ≤ 32 ∧ t.au.w < 32 ∧ t.eligible .a = true ∧ t.eligible .b = true ∧
        (t.au.granted.a < 16 ∧ 32 - t.au.w ≤ 16 - t.au.granted.a ∨ t.au.granted.b < 16 ∧ 32 - t.au.w ≤ 16 - t.au.granted.b)) ∧
    (∀ s ∈ [queued .b [qrec .read 1] (queued .a [qrec .read 1] svc)], s.eligible .a = true ∧ s.eligible .b = true ∧
      ¬(32 - s.au.w ≤ 16 - s.au.granted.a) ∧ ¬(32 - s.au.w ≤ 16 - s.au.granted.b)) := by decide

/-- Heads that pass, one for each op, with D at 8 and at 1; heads that fail each test. -/
theorem test_witness_HeadGranted :
    (∀ d ∈ [1, 8], ∀ op ∈ [Op.read, .write, .flush],
      ∀ s ∈ [(queued .a [qrec op 1] svc).onDct fun x => { x with depth := d }],
      nextDue s = none ∧ s.selected = some .a ∧ s.dct.freeTag = some 0 ∧ s.au.queue.get .a = qrec op 1 :: [] ∧
        s.issueCheck .a (qrec op 1) = none) ∧
    (∀ x ∈ [([{ ext (some .a) 5 with mark := some ⟨.claim, some .a⟩ }], CompStatus.retry),
            ([{ ext (some .a) 5 with mark := some ⟨.claim, some .b⟩ }], .notOwner), ([ext (some .b) 5], .notOwner),
            ([ext (some .a) 8], .staleEpoch)],
      ∀ s ∈ [queued .a [qrec .write 1] (withExts x.1 (svc.onOc fun o => { o with emap := 9 }))],
      nextDue s = none ∧ s.selected = some .a ∧ s.dct.freeTag = some 0 ∧ s.au.queue.get .a = qrec .write 1 :: [] ∧
        s.issueCheck .a (qrec .write 1) = some x.2) ∧
    (∀ s ∈ [queued .a [qrec .write 1] (svc.onOc fun o => { o with emap := 6 })],
      nextDue s = none ∧ s.selected = some .a ∧ s.oc.emap < (qrec .write 1).epoch) ∧
    (∀ x ∈ [({ ext (some .b) 5 with policy := .owner, mark := some ⟨.claim, some .a⟩ }, CompStatus.retry),
            ({ ext (some .b) 5 with policy := .owner }, .notOwner)],
      ∀ s ∈ [queued .a [qrec .read 1] (withExts [x.1] svc)],
      nextDue s = none ∧ s.selected = some .a ∧ s.issueCheck .a (qrec .read 1) = some x.2) := by decide

/-- A window that is over and one that is not; a queue that holds the configured depth and one that holds more. -/
theorem test_witness_WindowAndDepthTaken :
    (∀ s ∈ [svc.onAu fun a => { a with w := 32 }], s.au.window = some ⟨32, ⟨16, 16⟩⟩ ∧ 32 ≤ s.au.w) ∧
    (∀ s ∈ [svc.onAu fun a => { a with w := 31 }], s.au.window = some ⟨32, ⟨16, 16⟩⟩ ∧ s.au.w < 32) ∧
    (∀ s ∈ [queued .a (List.replicate 8 (qrec .read 1)) (withSettings (fun x => { x with depth := 8 }) svc)],
      s.au.depth.get .a ≠ 0 ∧ (s.au.queue.get .a).length ≤ s.cfg.depth) ∧
    (∀ s ∈ [queued .a (List.replicate 9 (qrec .read 1)) (withSettings (fun x => { x with depth := 8 }) svc)],
      s.cfg.depth < (s.au.queue.get .a).length) := by decide

/-- A part whose port A is in a state, with a settled identity 0021h that is not its owner identity 0011h. -/
def stranger (st : PortState) (s : State) : State :=
  setPort .a st (s.onPlu .a fun u => { u with settled := { u.settled with identity := 0x21 } })

/-- A takeover record of port A at a stage. -/
def recordAt (st : TakeoverStage) (s : State) : State :=
  s.onTc fun t => { t with records := t.records.set .a { t.records.a with stage := st } }

/-- An ENROL that finds each reason for refusal. -/
theorem test_witness_EnrolRefused :
    (∀ s ∈ [withSet 3 [intent .aborted] svc], nextDue s = none ∧ (hdr 10 1).length = 10#16 ∧
      (s.tc.intents.filter fun y => y.port = .a).getLast? = some ⟨3, .a, [intent .aborted]⟩) ∧
    (∀ x ∈ svc.tc.intents, x.port ≠ .a) ∧ (nextDue (inBridge .starting svc) = none) ∧
    (Quiet svc ∧ svc.ic.bridge ≠ .starting ∧ svc.port .a = .enrolled) ∧
    (∀ s ∈ [inBridge .halted (setPort .a .linked svc)], nextDue s = none ∧ s.port .a ≠ .enrolled ∧ s.ic.bridge = .halted) ∧
    (∀ st ∈ [PortState.suspect, .held, .parking], nextDue (setPort .a st svc) = none ∧ (setPort .a st svc).port .a = st) ∧
    (∀ s ∈ [(setPort .a .linked svc).onSup .a fun u => { u with enrol := some ⟨1, 0, .linked, 0x11, false⟩ }],
      nextDue s = none ∧ s.port .a = .linked ∧ (s.sup.get .a).enrol ≠ none) ∧
    (∀ st ∈ [TakeoverStage.fence, .drain, .transfer], ∀ s ∈ [recordAt st (setPort .a .fenced svc)],
      nextDue s = none ∧ s.port .a = .fenced ∧ (s.tc.records.get .a).stage = st ∧ (s.sup.get .a).enrol = none) ∧
    (∀ s ∈ [down2 .a (setPort .a .offline svc)], nextDue s = none ∧ s.port .a = .offline ∧ (s.plu.get .a).align = .down) ∧
    (∀ st ∈ [TakeoverStage.persist, .closed], ∀ s ∈ [sat (recordAt st (stranger .fenced svc))], nextDue s = none ∧
      s.port .a = .fenced ∧ (s.tc.records.get .a).stage = st ∧ (s.sup.get .a).enrol = none ∧ (s.plu.get .a).align ≠ .down ∧
      (s.plu.get .a).settled.health = .running ∧ (s.plu.get .a).settled.identity ≠ 0 ∧ s.oc.owns .a = true ∧
      s.oc.ownerId.get .a ≠ (s.plu.get .a).settled.identity ∧ s.oc.emap = BitVec.allOnes 32) := by
  unfold Quiet; decide

/-- An ENROL from each state that may be accepted: with no release needed (the owner identity, or no extent owned), and
with one, at a table free of marks and at one with a mark of the port. -/
theorem test_witness_EnrolAccepted :
    (∀ st ∈ [PortState.offline, .linked, .parked, .fenced],
      ∀ s ∈ [setPort .a st svc, withExts [ext none 0] (stranger st svc)],
      nextDue s = none ∧ s.ic.bridge = .service ∧ s.port .a = st ∧ (s.sup.get .a).enrol = none ∧
        (s.tc.records.get .a).stage = .closed ∧ (s.plu.get .a).align ≠ .down ∧ (s.plu.get .a).settled.health = .running ∧
        (s.plu.get .a).settled.identity ≠ 0 ∧ (s.sup.get Port.a.peer).judged = false ∧
        (s.oc.owns .a = false ∨ s.oc.ownerId.get .a = (s.plu.get .a).settled.identity)) ∧
    (∀ st ∈ [PortState.offline, .linked, .parked, .fenced],
      ∀ s ∈ [stranger st svc, withExts [marked .claim (some .a) (ext none 0), ext (some .a) 1] (stranger st svc)],
      nextDue s = none ∧ s.port .a = st ∧ (s.sup.get .a).enrol = none ∧ (s.plu.get .a).settled.identity ≠ 0 ∧
        s.oc.owns .a = true ∧ s.oc.ownerId.get .a ≠ (s.plu.get .a).settled.identity ∧ s.oc.emap ≠ BitVec.allOnes 32 ∧
        (∀ u ∈ s.oc.steps, u.id ≠ s.oc.nextStep) ∧
        (s.tc.records.get .a).step ≠ some s.oc.nextStep ∧ (s.tc.records.get .b).step ≠ some s.oc.nextStep) := by decide

/-- A part in RECOVERY with nothing owned, its image cycle in a state. -/
def recovering (c : CycleState) : State :=
  (inBridge .recovery (setPort .a .linked (withExts [ext none 0] svc))).onIc fun i => { i with cycle := c }

/-- An ENROL in RECOVERY, with a reported epoch below E_map, at it, and at the greatest value and the one below it. -/
theorem test_witness_EnrolInRecovery :
    (∀ c ∈ [CycleState.idle, .writing, .flushing], ∀ s ∈ [recovering c], nextDue s = none ∧ s.ic.bridge = .recovery ∧
      s.port .a = .linked ∧ (s.sup.get .a).enrol = none ∧ (s.plu.get .a).align ≠ .down ∧
      (s.plu.get .a).settled.health = .running ∧ (s.plu.get .a).settled.identity ≠ 0 ∧ s.oc.owns .a = false ∧
      (s.sup.get Port.a.peer).judged = false ∧ s.ic.cycle = c) ∧
    (¬((recovering .idle).oc.emap ≤ 6) ∧ (recovering .idle).oc.emap ≤ 7 ∧
      (recovering .idle).oc.emap ≤ 4294967294#32 ∧ (recovering .idle).oc.emap ≤ 4294967295#32 ∧
      4294967294#32 ≤ 4294967294#32 ∧ 4294967294#32 ≤ 4294967295#32) := by decide

/-- A PARK with no claim of the port, with one, with one of the peer, and from a port that is not ENROLLED. -/
theorem test_witness_ParkAccepted :
    (∀ st ∈ [PortState.offline, .linked, .suspect, .held, .parking, .parked, .fenced],
      nextDue (setPort .a st svc) = none ∧ (setPort .a st svc).port .a ≠ .enrolled) ∧
    (Quiet svc ∧ (hdr 6 1).length = 6#16 ∧ svc.ic.bridge ≠ .starting ∧ svc.port .a = .enrolled ∧
      ∀ c ∈ svc.oc.claims, c.claimant ≠ .a) ∧
    (Quiet claimed ∧ claimed.port .a = .enrolled ∧ claimA ∈ claimed.oc.claims ∧ claimA.claimant = .a ∧
      (∀ d ∈ claimed.oc.claims, d = claimA) ∧ (∀ c ∈ claimed.oc.claims, c.claimant ≠ .b)) := by
  unfold Quiet; decide

/-- Fields at and beyond the edges of their ranges. -/
theorem test_witness_RequestFieldsTested :
    (Quiet svc ∧ Quiet (inBridge .starting svc) ∧ (inBridge .starting svc).ic.bridge = .starting) ∧
    (1023#16 < 1024#16 ∧ 1024#16 < 1025#16 ∧ 1#8 < 2#8 ∧ (∀ c ∈ [0#8, 1#8, 3#8], c ≠ portCode Port.a.peer)) ∧
    (1023#16 ≤ 1023#16 ∧ 1#16 ≤ 1024#16 ∧ 1024#16 ≤ 1024#16 ∧ 1#8 ≤ 1#8 ∧ 255#8 ≠ 0 ∧ 1#16 ≠ 0) ∧
    ((hdr 10 1).length = 10#16 ∧ (hdr 11 1).length = 11#16 ∧ (hdr 7 1).length = 7#16 ∧ (hdr 8 1).length = 8#16 ∧
      (hdr 6 1).length = 6#16) := by
  unfold Quiet; decide

/-- A CLAIM for each refusal, and the two that meet no extent of the peer: all the port's own, and some of NONE. -/
theorem test_witness_ClaimServed :
    (∀ b ∈ [Bridge.halted, .recovery], nextDue (inBridge b svc) = none ∧ (inBridge b svc).ic.bridge = b) ∧
    (Quiet (setPort .a .held svc) ∧ (setPort .a .held svc).port .a ≠ .enrolled) ∧
    (Quiet svc ∧ svc.port .a = .enrolled ∧ svc.oc.extents.length < (3#16).toNat + (2#16).toNat ∧
      (3#16).toNat + (1#16).toNat ≤ svc.oc.extents.length) ∧
    (Quiet claimed ∧ (∃ c ∈ claimed.oc.claims, c.claimant = .a) ∧ (∀ c ∈ claimed.oc.claims, c.claimant ≠ .b) ∧
      (∃ e ∈ (claimed.oc.extents.drop 2).take 1, e.claim ≠ none ∨ e.mark ≠ none)) ∧
    (∀ s ∈ [sat svc], nextDue s = none ∧ (∀ c ∈ s.oc.claims, c.claimant ≠ .a) ∧
      (∀ e ∈ (s.oc.extents.drop 2).take 2, e.claim = none ∧ e.mark = none) ∧
      (∃ e ∈ (s.oc.extents.drop 2).take 2, e.owner ≠ some .a) ∧ s.oc.emap = BitVec.allOnes 32) ∧
    ((∀ c ∈ svc.oc.claims, c.claimant ≠ .a) ∧
      (∀ e ∈ (svc.oc.extents.drop 0).take 2, e.claim = none ∧ e.mark = none ∧ e.owner ≠ some Port.a.peer ∧ e.owner = some .a) ∧
      (∀ e ∈ (svc.oc.extents.drop 3).take 1, e.claim = none ∧ e.mark = none ∧ e.owner ≠ some Port.a.peer) ∧
      (∃ e ∈ (svc.oc.extents.drop 3).take 1, e.owner = none) ∧ svc.oc.emap ≠ BitVec.allOnes 32) := by
  unfold Quiet; decide

/-- A CLAIM of B on an extent of A: the holder in service, FENCED and PARKING; the next id free, held by the other claim,
and passing from 255 to 1. -/
theorem test_witness_ClaimRecorded :
    (∀ st ∈ [PortState.enrolled, .suspect, .fenced, .parking], ∀ s ∈ [setPort .a st svc], nextDue s = none ∧
      s.ic.bridge = .service ∧ s.port .b = .enrolled ∧ (1#16).toNat + (3#16).toNat ≤ s.oc.extents.length ∧
      (∀ c ∈ s.oc.claims, c.claimant ≠ .b) ∧ s.oc.claims.length ≤ 1 ∧ s.oc.emap ≠ BitVec.allOnes 32 ∧
      (∀ e ∈ (s.oc.extents.drop 1).take 3, e.claim = none ∧ e.mark = none) ∧
      (∃ e ∈ (s.oc.extents.drop 1).take 3, e.owner = some Port.b.peer) ∧
      (∀ c ∈ s.oc.claims, c.id ≠ succClaimId s.oc.lastClaimId)) ∧
    (∀ s ∈ [claimed.onOc fun o => { o with lastClaimId := 3 }], nextDue s = none ∧ (∀ c ∈ s.oc.claims, c.claimant ≠ .b) ∧
      s.oc.claims.length ≤ 1 ∧ (∃ c ∈ s.oc.claims, c.id = succClaimId s.oc.lastClaimId)) ∧
    succClaimId 255 = 1 ∧ succClaimId 254 = 255 := by decide

/-- A YIELD or a KEEP of the holder B: of the open claim, of another id, at a mark, at saturation. -/
theorem test_witness_YieldServed :
    (∀ b ∈ [Bridge.halted, .recovery], nextDue (inBridge b claimed) = none ∧ (hdr 7 1).length = 7#16 ∧ 4#8 ≠ 0) ∧
    (Quiet claimed ∧ claimed.ic.bridge = .service ∧
      (∀ c ∈ claimed.oc.claims, ¬(c.id = 5 ∧ c.state = .asking ∧ c.claimant = Port.b.peer)) ∧
      claimA ∈ claimed.oc.claims ∧ claimA.id = 4 ∧ claimA.state = .asking ∧ claimA.claimant = Port.b.peer ∧
      (∀ d ∈ claimed.oc.claims, d = claimA)) ∧
    (∀ s ∈ [claimed.onOc fun o => { o with extents := o.extents.map (marked .release none) }], nextDue s = none ∧
      ∃ e ∈ (s.oc.extents.drop 2).take 1, e.mark ≠ none) ∧
    (∀ s ∈ [claimed, sat claimed], nextDue s = none ∧ s.oc.steps = [] ∧
      ∀ e ∈ (s.oc.extents.drop claimA.first).take claimA.count, e.mark = none) ∧
    ((sat claimed).oc.emap = BitVec.allOnes 32 ∧ claimed.oc.emap ≠ BitVec.allOnes 32) := by
  unfold Quiet; decide

theorem test_witness_KeepServed :
    (Quiet claimed ∧ (hdr 7 1).length = 7#16 ∧ 4#8 ≠ 0 ∧ claimed.ic.bridge = .service ∧ claimA ∈ claimed.oc.claims ∧
      claimA.id = 4 ∧ claimA.state = .asking ∧ claimA.claimant = Port.b.peer ∧ (∀ d ∈ claimed.oc.claims, d = claimA)) ∧
    (∀ c ∈ claimed.oc.claims, ¬(c.id = 5 ∧ c.state = .asking ∧ c.claimant = Port.b.peer)) ∧
    (∀ b ∈ [Bridge.starting, .halted, .recovery], nextDue (inBridge b claimed) = none ∧ (inBridge b claimed).ic.bridge = b) := by
  unfold Quiet; decide

/-- A DISCLAIM and a SET POLICY for each refusal and one that passes, the cycle idle and not. -/
theorem test_witness_OwnerRequestServed :
    (∀ b ∈ [Bridge.halted, .recovery], nextDue (inBridge b svc) = none ∧ (inBridge b svc).ic.bridge = b) ∧
    (Quiet (setPort .a .parking svc) ∧ (setPort .a .parking svc).port .a ≠ .enrolled) ∧
    (Quiet svc ∧ (hdr 10 1).length = 10#16 ∧ (hdr 11 1).length = 11#16 ∧ 0#16 ≤ 1023#16 ∧ 1#16 ≤ 2#16 ∧ 2#16 ≤ 1024#16 ∧
      svc.ic.bridge = .service ∧ svc.port .a = .enrolled ∧ svc.oc.extents.length < (0#16).toNat + (5#16).toNat ∧
      (∃ e ∈ (svc.oc.extents.drop 0).take 3, e.owner ≠ some .a) ∧
      (∀ e ∈ (svc.oc.extents.drop 0).take 2, e.owner = some .a ∧ e.mark = none ∧ e.claim = none)) ∧
    (∀ s ∈ [withExts [marked .release none (ext (some .a) 1)] svc], nextDue s = none ∧
      (∀ e ∈ (s.oc.extents.drop 0).take 1, e.owner = some .a) ∧ (∃ e ∈ (s.oc.extents.drop 0).take 1, e.mark ≠ none)) ∧
    (Quiet (sat svc) ∧ (sat svc).oc.emap = BitVec.allOnes 32 ∧ svc.oc.emap ≠ BitVec.allOnes 32) ∧
    (∀ c ∈ [CycleState.idle, .writing], ∀ s ∈ [svc.onIc fun i => { i with cycle := c }], nextDue s = none ∧ s.ic.cycle = c) := by
  unfold Quiet; decide

/-- A step that is ready to commit: below the greatest epoch, next to it, and at it for the kinds that may. -/
theorem test_witness_StepCommits :
    (∀ k ∈ [StepKind.claim, .disclaim, .takeover, .park, .release, .clear],
      ∀ u ∈ [stepOf k (some none) [0, 1] (some .a) none .quiesce], ∀ s ∈ [withStep u svc], s.oc.findStep u.id = some u ∧ u.stage = .quiesce ∧
        (∀ x ∈ s.oc.entriesOf u.extents, x.inflight = 0) ∧ s.oc.emap ≠ BitVec.allOnes 32) ∧
    (∀ k ∈ [StepKind.takeover, .park, .clear], ∀ u ∈ [stepOf k (some none) [0, 1] (some .a) none .quiesce],
      ∀ s ∈ [withStep u (sat svc)], s.oc.findStep u.id = some u ∧ s.oc.emap = BitVec.allOnes 32) ∧
    (∀ u ∈ [stepOf .disclaim (some none) [0, 1] (some .a) (some 3) .quiesce], ∀ s ∈ [withStep u (sat svc)],
      s.oc.findStep u.id = some u ∧ u.stage = .quiesce ∧ u.kind = .disclaim ∧ s.oc.claims = [] ∧
        (∀ x ∈ s.oc.entriesOf u.extents, x.inflight = 0) ∧ s.oc.emap = BitVec.allOnes 32) := by decide

/-- A whole-port step that is admitted, one that waits at a mark, and one with an empty set; each choice of destination. -/
theorem test_witness_WholeStepAdmitted :
    (∀ u ∈ svc.oc.steps, u.id ≠ svc.oc.nextStep) ∧
    (∀ e ∈ svc.oc.extents, concernedIn .park (some .a) e = true → e.mark = none) ∧ svc.oc.wholeSet .park (some .a) ≠ [] ∧
    (∀ s ∈ [withExts [marked .claim (some .a) (ext none 0)] svc],
      ∃ e ∈ s.oc.extents, concernedIn .park (some .a) e = true ∧ e.mark ≠ none) ∧
    (∀ s ∈ [withExts [ext none 0] svc], s.oc.wholeSet .clear none = [] ∧
      ∀ e ∈ s.oc.extents, concernedIn .clear none e = true → e.mark = none) ∧
    (svc.port Port.a.peer = .enrolled ∧ svc.cfg.destination = .survivor ∧ (setPort .b .held svc).port Port.a.peer ≠ .enrolled) := by decide

/-- A takeover in DRAIN and a park in DRIVE whose ports have nothing at the drive, a park in QUEUE, and a step that waits. -/
theorem test_witness_DrainReported :
    (∀ s ∈ [(recordAt .drain svc).onDct fun d => { d with clearReq := ⟨true, false⟩ }], s.dct.clearReq.get .a = true ∧
      (∀ e ∈ s.dct.entries, e.origin ≠ .server .a) ∧ (s.tc.records.get .a).stage = .drain) ∧
    (∀ s ∈ [(svc.onTc fun t => { t with parks := ⟨some ⟨.drive, 5, none, false⟩, none⟩ }).onDct fun d =>
        { d with clearReq := ⟨true, false⟩ }], s.dct.clearReq.get .a = true ∧ (s.tc.records.get .a).stage ≠ .drain ∧
      s.tc.parks.get .a = some ⟨.drive, 5, none, false⟩) ∧
    (svc.dct.clearReq.get .a = false ∧ (queued .a [qrec .read 1] svc).au.queue.get .a ≠ [] ∧ svc.oc.admitDue = false) ∧
    (∀ s ∈ [svc.onTc fun t => { t with parks := ⟨some ⟨.queue, 5, none, false⟩, none⟩ }],
      s.tc.parks.get .a = some ⟨.queue, 5, none, false⟩ ∧ s.au.queue.get .a = []) ∧
    (∀ u ∈ [stepOf .release none [] (some .a) (some 3) .waiting],
      ∀ s ∈ [(withStep u svc).onOc fun o => { o with admitDue := true }], s.oc.admitDue = true ∧ s.oc.steps = [u] ∧
        u.stage = .waiting ∧ u.kind = .release ∧ u.port = some .a ∧ (∀ e ∈ s.oc.extents, e.mark = none) ∧
        (s.tc.records.get .a).step ≠ some u.id ∧ (s.tc.records.get .b).step ≠ some u.id ∧ s.oc.owns .a = true) := by decide

/-- The steps whose release or end a ticket tells. -/
def stepK (k : StepKind) : TransferStep := stepOf k (some (some .b)) [0, 1] (some .a) (some 3) .persist

/-- A ticket of each kind; a step of each kind; the CLAIM step of an open claim. -/
theorem test_witness_TicketServed :
    (∀ d ∈ [true, false], ∀ t ∈ [Taker.policy .a 3, .config true false], ∀ s ∈ [withServed t d svc],
      s.oc.admitDue = false ∧ s.ic.served = [⟨t, d⟩]) ∧
    (∀ k ∈ [StepKind.claim, .disclaim, .clear], ∀ s ∈ [withServed (.step 0) true (withStep (stepK k) svc)],
      s.oc.admitDue = false ∧ s.ic.served = [⟨.step (stepK k).id, true⟩] ∧ s.oc.findStep (stepK k).id = some (stepK k) ∧
        s.oc.claims = [] ∧ (stepK k).port = some .a ∧ (stepK k).ref = some 3) ∧
    (∀ c ∈ [{ claimA with state := .transferring, step := some 0 }],
      ∀ s ∈ [withServed (.step 0) true ((withStep (stepK .claim) claimed).onOc fun o => { o with claims := [c] })],
      s.oc.admitDue = false ∧ s.ic.served = [⟨.step (stepK .claim).id, true⟩] ∧
        s.oc.findStep (stepK .claim).id = some (stepK .claim) ∧ s.oc.claims = [c] ∧ c.step = some (stepK .claim).id) := by decide

/-- A part whose port A has an ENROL in progress that was accepted in a state. -/
def enrolling (st : PortState) (s : State) : State :=
  (setPort .a .linked s).onSup .a fun u => { u with enrol := some ⟨5, 9, st, 0x11, true⟩ }

/-- The ticket of an ENROL in RECOVERY, the first and a later one; the release of an ENROL that still holds, at its own
state and at the other of LINKED and OFFLINE, and of one that does not. -/
theorem test_witness_EnrolTicketServed :
    (∀ f ∈ [true, false], ∀ s ∈ [withServed (.enrol .a f) true (enrolling .linked (inBridge .recovery svc))],
      s.oc.admitDue = false ∧ s.ic.served = [⟨.enrol .a f, true⟩] ∧
        (s.sup.get .a).enrol = some ⟨5, 9, .linked, 0x11, true⟩ ∧ s.ic.bridge = .recovery) ∧
    (∀ st ∈ [PortState.linked, .offline, .fenced],
      ∀ s ∈ [withServed (.step 0) true (withStep (stepK .release) (enrolling st svc))],
      s.oc.admitDue = false ∧ s.ic.served = [⟨.step (stepK .release).id, true⟩] ∧
        s.oc.findStep (stepK .release).id = some (stepK .release) ∧ (stepK .release).port = some .a ∧ s.oc.claims = [] ∧
        (s.sup.get .a).enrol = some ⟨5, 9, st, 0x11, true⟩ ∧ (s.sup.get Port.a.peer).judged = false ∧ s.port .a = .linked ∧
        (s.plu.get .a).align ≠ .down ∧ (s.plu.get .a).settled.health = .running ∧
        (s.plu.get .a).settled.identity = 0x11) := by decide

/-- A part whose port A has been taken over, or has parked, and the step's ticket is served. -/
def handing (k : StepKind) (dest : Option Port) : State :=
  (withServed (.step 0) true (withStep { stepK k with dest := some dest } svc)).onTc fun t =>
    { t with records := t.records.set .a { t.records.a with setId := 6, stage := .persist, count := 1,
                                                            step := if k = .takeover then some 0 else none },
             parks := ⟨if k = .park then some ⟨.persist, 5, some 0, false⟩ else none, none⟩ }

theorem test_witness_HandoverCompletes :
    ∀ k ∈ [StepKind.takeover, .park], ∀ d ∈ [some Port.b, none], ∀ s ∈ [handing k d],
      ∀ u ∈ [{ stepK k with dest := some d }],
      s.oc.admitDue = false ∧ s.ic.served = [⟨.step u.id, true⟩] ∧ s.oc.findStep u.id = some u ∧ s.oc.claims = [] ∧
        u.port = some .a ∧ u.dest = some d ∧ (∀ x ∈ s.tc.closing, x.step ≠ u.id) ∧
        (k = .takeover → (s.tc.records.get .a).step = some u.id) ∧
        (k = .park → s.tc.parks.get .a = some ⟨.persist, 5, some u.id, false⟩ ∧ d ≠ some .a) := by decide

/-- Port A with a WRITE, a READ and an aborting FLUSH at the drive and two commands queued. -/
def busyA : State :=
  queued .a [qrec .read 9, qrec .flush 10]
    (withEntries [ent 0 .a .write, ent 1 .b .write, ent 2 .a .read, aborting (ent 3 .a .flush)] svc)

/-- The states that a fence may find: the port FENCED, the bridge STARTING, an open claim on each side, the intent list
empty and full, a park and a takeover in PERSIST, the link DOWN, nothing at the drive, either fence mode. -/
theorem test_witness_FenceCutsOff :
    ((setPort .a .fenced svc).port .a = .fenced ∧ (inBridge .starting svc).ic.bridge = .starting) ∧
    (busyA.port .a ≠ .fenced ∧ busyA.ic.bridge ≠ .starting ∧ busyA.oc.claims = [] ∧ busyA.tc.intents.length < 2 ∧
      (∃ e ∈ busyA.dct.entries, e.origin = .server .a ∧ e.op = .write) ∧ busyA.cfg.fenceMode = .drain ∧
      (busyA.plu.get .a).align ≠ .down ∧ (busyA.tc.records.get .a).stage ≠ .persist ∧ busyA.tc.parks.get .a = none ∧
      (busyA.tc.usedSetIds .a).contains (succSetId busyA.tc.fenceCount) = false) ∧
    (claimed.oc.claims = [claimA] ∧ claimA.claimant = .a ∧ claimA.claimant = Port.b.peer) ∧
    (2 ≤ (withSet 2 [] (withSet 1 [] busyA)).tc.intents.length) ∧
    (∀ e ∈ svc.dct.entries, e.origin ≠ .server .a) ∧ ((down2 .a busyA).plu.get .a).align = .down ∧
    (∀ s ∈ [handing .takeover none], (s.tc.records.get .a).stage = .persist ∧ (s.tc.records.get .a).step = some 0) ∧
    ((withSettings (fun x => { x with fenceMode := .abort }) busyA).cfg.fenceMode = .abort) ∧
    (∀ st ∈ [ParkStage.queue, .drive, .transfer, .persist],
      (busyA.onTc fun t => { t with parks := ⟨some ⟨st, 5, none, false⟩, none⟩ }).tc.parks.get .a = some ⟨st, 5, none, false⟩) := by decide

/-- A TAKEOVER and a FENCE PORT for each test, port codes 0, 1, 2 and 3. -/
theorem test_witness_FenceRequested :
    (Quiet svc ∧ svc.ic.bridge ≠ .starting ∧ (hdr 7 1).length = 7#16 ∧ svc.port .a = .enrolled ∧
      svc.cfg.peerTakeover = true ∧ svc.port Port.a.peer ≠ .fenced ∧ svc.mi.answer.status ≠ .pending) ∧
    (Quiet (setPort .a .held svc) ∧ (setPort .a .held svc).port .a ≠ .enrolled) ∧
    (∀ s ∈ [withSettings (fun x => { x with peerTakeover := false }) svc], nextDue s = none ∧ s.cfg.peerTakeover = false) ∧
    (∀ st ∈ [TakeoverStage.drain, .closed], ∀ s ∈ [recordAt st (setPort .a .fenced svc)], nextDue s = none ∧
      s.port Port.b.peer = .fenced ∧ (s.tc.records.get Port.b.peer).stage = st ∧ s.mi.answer.status ≠ .pending) ∧
    (0#8 = 0#8 ∧ 2#8 < 3#8 ∧ portCode .a = 1#8 ∧ portCode .b = 2#8) ∧
    (Quiet (inBridge .starting svc) ∧ (inBridge .starting svc).ic.bridge = .starting ∧
      (inBridge .starting svc).mi.answer.status ≠ .pending) := by
  unfold Quiet; decide

/-- A SUSPECT port whose confirm timer runs, its peer ENROLLED or not, seeing it or not, auto takeover on and off; a
PARKING port; a port that is OFFLINE or LINKED at the end of the start window, and two that are not. -/
theorem test_witness_TimersFence :
    (∀ v ∈ [PeerView.seen, .notSeen, .unknown], ∀ auto ∈ [true, false],
      ∀ s ∈ [withSettings (fun x => { x with autoTakeover := auto })
        (plu .b (fun u => { u with settled := ⟨0x12, .running, 5, v⟩ })
          (svc.onSup .a fun u => { u with state := .suspect, cause := .link, confirm := some 1500 }))],
      nextDue s = none ∧ (s.sup.get .a).confirm.isSome = true ∧ s.port .a = .suspect ∧ s.port Port.a.peer = .enrolled ∧
        (s.plu.get Port.a.peer).settled.view = v ∧ s.cfg.autoTakeover = auto) ∧
    (∀ s ∈ [setPort .b .held (svc.onSup .a fun u => { u with state := .suspect, confirm := some 1500 })],
      nextDue s = none ∧ s.port Port.a.peer ≠ .enrolled) ∧
    (∀ s ∈ [svc.onSup .a fun u => { u with state := .parking, park := some 10 }], nextDue s = none ∧
      (s.sup.get .a).park.isSome = true ∧ s.port .a = .parking) ∧
    (∀ st ∈ [PortState.offline, .linked], ∀ s ∈ [{ setPort .a st svc with startWindow := some 60 }], nextDue s = none ∧
      s.startWindow.isSome = true ∧ s.port .a = st ∧ s.oc.owns .a = true ∧ s.port Port.a.peer = .enrolled ∧
        s.cfg.autoTakeover = true) ∧
    (∀ s ∈ [({ svc with startWindow := some 60 } : State)], nextDue s = none ∧ s.startWindow.isSome = true ∧
      ∀ q ∈ [Port.a, .b], ¬(s.port q = .offline ∨ s.port q = .linked)) := by decide

theorem test_witness_DeadlinesExpire :
    (Quiet claimed ∧ claimed.oc.findClaim claimA.id = some claimA ∧ claimA.state = .asking ∧ claimA.deadline.isSome = true) ∧
    (∀ s ∈ [busyA.onTc fun t => { t with records := t.records.set .a { t.records.a with stage := .drain, drain := some 5000 } }],
      nextDue s = none ∧ (s.tc.records.get .a).drain.isSome = true) := by
  unfold Quiet; decide

/-- A set with an entry still OPEN, one with none, no set of the id, id 0, and the bridge STARTING. -/
theorem test_witness_IntentSetRead :
    (∀ o ∈ [IntentOutcome.notYet, .completed, .failed 7, .aborted, .lostInReset],
      ∀ s ∈ [withSet 3 [intent .completed, intent o] svc], nextDue s = none ∧ (hdr 8 1).length = 8#16 ∧ 3#16 ≠ 0 ∧
        s.ic.bridge ≠ .starting ∧ s.tc.intents.find? (fun y => y.setId = 3) = some ⟨3, .a, [intent .completed, intent o]⟩ ∧
        ((∃ e ∈ [intent .completed, intent o], e.outcome = .notYet) ↔ o = .notYet) ∧ (∀ x ∈ s.tc.intents, x.setId ≠ 4)) ∧
    (Quiet (inBridge .starting svc) ∧ (inBridge .starting svc).ic.bridge = .starting) := by
  unfold Quiet; decide

theorem test_witness_IntentSetCleared :
    (∀ s ∈ [withSet 4 [intent .notYet] (withSet 3 [intent .notYet] svc)], nextDue s = none ∧ (hdr 8 1).length = 8#16 ∧
      3#16 ≠ 0 ∧ s.ic.bridge ≠ .starting ∧ s.port .a = .enrolled ∧ (∃ x ∈ s.tc.intents, x.setId = 3) ∧
      (∀ x ∈ s.tc.intents, x.setId ≠ 5) ∧ s.tc.intents.length ≤ 2) ∧
    (Quiet (setPort .a .suspect svc) ∧ (setPort .a .suspect svc).port .a ≠ .enrolled) := by
  unfold Quiet; decide

/-- A MAP QUERY from the last extent, from the one after it, and with no table. -/
theorem test_witness_QueriesServed :
    (Quiet svc ∧ (hdr 10 1).length = 10#16 ∧ 3#16 ≤ 1023#16 ∧ 2#16 ≠ 0 ∧ svc.ic.bridge ≠ .starting ∧ svc.oc.extents ≠ [] ∧
      svc.oc.extents.length ≤ (4#16).toNat ∧ (3#16).toNat < svc.oc.extents.length ∧ (hdr 6 1).length = 6#16) ∧
    (Quiet (withExts [] (inBridge .halted svc)) ∧ (withExts [] (inBridge .halted svc)).oc.extents = []) := by
  unfold Quiet; decide

theorem test_witness_ManagementReads :
    (Quiet svc ∧ svc.mi.answer.status ≠ .pending ∧ recordLength 1 ≠ some ([7#8].length + 2) ∧
      recordLength 9 ≠ some (([] : List Byte).length + 2)) ∧
    (∀ s ∈ [svc.onMi fun m => { m with answer := ⟨1, 4, .pending, noMiFlags, []⟩ }], nextDue s = none ∧
      s.mi.answer.status = .pending) := by
  unfold Quiet; decide

/-- The default record with other values of some fields. -/
def rawDefault : RawConfig := rawOfSettings .default

/-- A part with nothing owned, so that its geometry is free. -/
def free : State := withExts (List.replicate 4 (ext none 7)) svc

/-- A record with k_req unchanged, changed and held, changed with the table rebuilt, in every bridge state, the cycle idle
and not. -/
theorem test_witness_ConfigReplaced :
    (∀ b ∈ [Bridge.starting, .recovery, .service, .halted], ∀ s ∈ [inBridge b svc], nextDue s = none ∧
      s.mi.answer.status ≠ .pending ∧ s.ic.bridge = b) ∧
    ((settingsOfRaw rawDefault).kReq = svc.mi.settings.kReq ∧
      (settingsOfRaw { rawDefault with kReq := 9 }).kReq ≠ svc.mi.settings.kReq ∧
      svc.geometryHeld 9 = true ∧ free.geometryHeld 9 = false ∧ free.oc.extents ≠ [] ∧ nextDue free = none ∧
      (settingsOfRaw { rawDefault with autoTakeover := 0 }).autoTakeover ≠ svc.mi.settings.autoTakeover) ∧
    (∀ c ∈ [CycleState.idle, .flushing], ∀ s ∈ [free.onIc fun i => { i with cycle := c }], nextDue s = none ∧ s.ic.cycle = c) := by decide

theorem test_witness_ClearMapServed :
    (∀ s ∈ [inBridge .starting svc, withExts [] svc], nextDue s = none ∧ s.mi.answer.status ≠ .pending ∧
      (s.ic.bridge = .starting ∨ s.oc.extents = [])) ∧
    (∀ st ∈ [PortState.enrolled, .suspect, .held, .parking], ∀ s ∈ [setPort .a .linked (setPort .b st svc)],
      nextDue s = none ∧ s.ic.bridge ≠ .starting ∧ s.oc.extents ≠ [] ∧ s.port .b = st) ∧
    (∀ s ∈ [setPort .b .fenced (setPort .a .linked svc)], nextDue s = none ∧ s.oc.claims = [] ∧
      ∀ p ∈ [Port.a, .b], s.port p ≠ .enrolled ∧ s.port p ≠ .suspect ∧ s.port p ≠ .held ∧ s.port p ≠ .parking ∧
        (s.tc.records.get p).stage = .closed) := by decide

/-! ### Witnesses: the drive port and the image -/

/-- A part whose drive is in a state, with the two levels of DV_PRSN and a retry time that runs or not. -/
def driveAt (d : Drive) (low : Bool) (retry : Timer) : State :=
  State.reset.onDct fun x => { x with drive := d, prsnLow := low, retryTimer := retry, attachTimer := some 10 }

/-- Identify answers at the edges of support: 319 and 320 blocks, V = 2^40 and one more, D 0 and 1, block sizes. -/
theorem test_witness_AttachServed :
    (∀ low ∈ [true, false], ∀ r ∈ [none, some 1], ∀ s ∈ [driveAt .absent low r], nextDue s = none ∧
      s.dct.drive = .absent ∧ s.dct.prsnLow = low ∧ s.dct.retryTimer = r) ∧
    (∀ s ∈ [driveAt .attaching true none], nextDue s = none ∧ s.dct.drive = .attaching ∧ s.dct.attachTimer.isSome = true ∧
      s.dct.prsnLow = true ∧ s.ic.bridge = .starting ∧ s.oc.claims = [] ∧ s.ic.tickets = [] ∧
      ∀ p ∈ [Port.a, .b], s.au.queue.get p = [] ∧ (s.plu.get p).align = .down) ∧
    (∀ d ∈ [Drive.ready, .resetting, .lost], nextDue (driveAt d true none) = none ∧ (driveAt d true none).dct.drive = d) ∧
    (1 ≤ 1 ∧ 320 ≤ 320 ∧ 320 - 64 ≤ 2 ^ 40 ∧ 2 ^ 40 + 64 - 64 ≤ 2 ^ 40 ∧ 319 < 320 ∧ 2 ^ 40 < 2 ^ 40 + 65 - 64 ∧
      513 ≠ 512 ∧ 513 ≠ 4096) := by decide

/-- A part whose drive is being re-attached, at an attempt. -/
def resetting (no : Nat) : State :=
  svc.onDct fun d => { d with drive := .resetting, reattachTimer := some 5, reattachNo := no }

theorem test_witness_ReattachEnds :
    (∀ no ∈ [1, 2], ∀ s ∈ [resetting no, queued .a [qrec .read 1] (resetting no)], nextDue s = none ∧
      s.dct.drive = .resetting ∧ s.dct.reattachTimer.isSome = true ∧ s.dct.reattachNo = no ∧
      s.dct.firstAttach = some (1088, 512) ∧ s.dct.firstAttach ≠ some (1089, 512) ∧ s.oc.claims = []) := by decide

/-- Entries of each op, watched and not, with an abort sent and without. -/
theorem test_witness_EntryEnds :
    ∀ op ∈ [Op.read, .write, .flush],
      ∀ e ∈ [ent 0 .a op, { ent 0 .a op with watched := some 3 }, aborting (ent 0 .a op),
        aborting { ent 0 .a op with watched := some 3 }],
      ∀ s ∈ [withEntries [e] svc], nextDue s = none ∧ s.dct.find e.tag = some e ∧ e.origin = .server .a ∧
        (s.plu.get .a).dataList = [] := by decide

theorem test_witness_ReadDataAndAborts :
    (∀ e ∈ [ent 0 .a .read, { ent 0 .a .read with watched := some 3 }], ∀ s ∈ [withEntries [e] svc],
      nextDue s = none ∧ s.dct.find 0 = some e ∧ e.op = .read ∧ e.origin = .server .a ∧ (s.plu.get .a).dataList = [] ∧
        e.cmdTimer.isSome = true ∧ e.abort = none) ∧
    (∀ s ∈ [withEntries [bridgeEnt .read] (inBridge .starting svc)], nextDue s = none ∧
      s.dct.find 7 = some (bridgeEnt .read) ∧ (bridgeEnt .read).origin = .bridge ∧ s.ic.readBuf.length = (0#32).toNat ∧
        (0#32).toNat + 2 ≤ imageBlocks s.blockSize * s.blockSize) ∧
    svc.dct.find 0 = none := by decide

/-- One unwatched command, one watched WRITE, several of both; an image WRITE. -/
theorem test_witness_DriveResetStarted :
    (∀ es ∈ [[aborting (ent 0 .a .flush)], [{ aborting (ent 0 .a .write) with watched := some 3 }],
        [aborting (ent 0 .a .write), { ent 1 .b .write with watched := some 3 }]], ∀ s ∈ [withEntries es svc],
      nextDue s = none ∧ (∀ e ∈ s.dct.entries, e.origin ≠ .bridge) ∧ s.dct.drive = .ready ∧ s.dct.prsnLow = true) ∧
    (∀ e ∈ [aborting (bridgeEnt .write)], ∀ n ∈ [1, 2],
      ∀ s ∈ [(withEntries [e] svc).onIc fun i => { i with cycle := .writing, attempt := n }], nextDue s = none ∧
        s.dct.entries = [e] ∧ e.origin = .bridge ∧ e.op = .write ∧ e.abort.isSome = true ∧ s.ic.bridge ≠ .starting ∧
        s.ic.attempt < 3) := by decide

/-- A cycle that is due; a bridge command that waits at a READY drive with the bridge tag free, and one that cannot go;
the end of each image command, at attempts 2 and 3. -/
theorem test_witness_ImageCycleRuns :
    ((svc.onIc fun i => { i with beginDue := true }).ic.beginDue = true ∧ svc.ic.beginDue = false) ∧
    (∀ c ∈ [BridgeCmd.imageRead, .imageWrite, .imageFlush], ∀ s ∈ [svc.onDct fun d => { d with bridgeWait := some c }],
      s.dct.bridgeWait = some c ∧ s.dct.drive = .ready ∧ (∀ e ∈ s.dct.entries, e.tag ≠ s.dct.depth - 1)) ∧
    (svc.dct.bridgeWait = none ∧ (∃ e ∈ (withEntries [bridgeEnt .write] svc).dct.entries, e.tag = svc.dct.depth - 1)) ∧
    (∀ c ∈ [CycleState.writing, .flushing], ∀ n ∈ [1, 2, 3],
      ∀ s ∈ [(withEntries [bridgeEnt .write] svc).onIc fun i => { i with cycle := c, attempt := n }], nextDue s = none ∧
        s.dct.find (bridgeEnt .write).tag = some (bridgeEnt .write) ∧ (bridgeEnt .write).op ≠ .read ∧
        (bridgeEnt .write).range = none ∧ s.ic.bridge ≠ .starting ∧ s.ic.cycle = c ∧ s.ic.attempt = n) := by decide

/-- The part as it waits for the image READ. -/
def reading : State :=
  withEntries [bridgeEnt .read]
    (withExts [] (inBridge .starting (setPort .a .offline (setPort .b .offline svc)))) |>.onAu fun _ => Au.reset

theorem test_witness_ImageReadEnds :
    nextDue reading = none ∧ reading.dct.find (bridgeEnt .read).tag = some (bridgeEnt .read) ∧
      (bridgeEnt .read).origin = .bridge ∧ (bridgeEnt .read).op = .read ∧ reading.ic.bridge = .starting ∧
      reading.port .a = .offline ∧ (reading.plu.get .a).align ≠ .down := by decide

theorem test_witness_GeometryExact :
    (256 ≤ 256 ∧ 256 ≤ 2 ^ 40 ∧ 8 ≤ 8 ∧ 8 ≤ 30) ∧ (256 ≤ 2 ^ 40 ∧ 2 ^ 40 ≤ 2 ^ 40 ∧ 8 ≤ 30 ∧ 30 ≤ 30) := by decide

/-- The last range of a drive of 1024 blocks; one block; a range of 65,535 blocks over 257 extents. -/
theorem test_witness_SpanExact :
    (1#16 ≠ 0 ∧ (1023#48).toNat + (1#16).toNat ≤ 1024 ∧ (rangeOf 8 1023 1).f = (rangeOf 8 1023 1).g) ∧
    (65535#16 ≠ 0 ∧ (255#48).toNat + (65535#16).toNat ≤ 2 ^ 40 ∧ (rangeOf 8 255 65535).f < (rangeOf 8 255 65535).g ∧
      (rangeOf 8 255 65535).g - (rangeOf 8 255 65535).f + 1 = 257) := by decide

theorem test_witness_ImageSumIs7E51 : svc.oc.extents.length ≤ 1024 := by decide

theorem test_witness_ImageRoundTrip :
    svc.mi.settings = settingsOfRaw rawDefault ∧ 256 ≤ free.oc.visible ∧ free.oc.visible ≤ 2 ^ 40 ∧
      (∀ s ∈ [withSettings (fun _ => settingsOfRaw { rawDefault with kReq := 8 }) svc],
        s.mi.settings = settingsOfRaw { rawDefault with kReq := 8 } ∧ 256 ≤ s.oc.visible ∧ s.oc.visible ≤ 2 ^ 40 ∧
        s.oc.shift = shiftOf s.oc.visible s.mi.settings.kReq ∧ s.oc.extents.length = extentsOf s.oc.visible s.oc.shift ∧
        ∀ e ∈ s.oc.extents, e.epoch ≤ s.oc.emap) := by decide

/-! ### Witnesses of the clauses that join several cases in one statement -/

/-- A claim of the peer that already waits on the port, its settlement owed or not. -/
def waitedOn (owed : Bool) : State :=
  svc.onOc fun o => { o with claims := [{ claimA with claimant := .b, state := .waiting, deadline := none, owed := owed }] }

/-- A PARK and a fence of port A that find such a claim. -/
theorem test_witness_ParkAccepted_2 :
    ∀ w ∈ [true, false], ∀ s ∈ [waitedOn w], nextDue s = none ∧ s.port .a = .enrolled ∧ s.ic.bridge ≠ .starting ∧
      (∀ c ∈ s.oc.claims, c.claimant ≠ .a ∧ c.claimant = Port.a.peer ∧ c.state = .waiting ∧ c.owed = w) ∧
      s.oc.claims.length = 1 := by decide

/-- A fence that passes over no set id, one, and two: held by an intent set, by the closing list and by the peer's record. -/
theorem test_witness_FenceCutsOff_2 :
    svc.tc.usedSetIds .a = [] ∧
    (∀ s ∈ [withSet 1 [] svc], (s.tc.usedSetIds .a).contains (succSetId s.tc.fenceCount) = true ∧
      (s.tc.usedSetIds .a).contains (succSetId (succSetId s.tc.fenceCount)) = false) ∧
    (∀ s ∈ [(withSet 1 [] svc).onTc fun t => { t with closing := [⟨.b, 2, none, 0, 0⟩] },
        (withSet 1 [] svc).onTc fun t => { t with records := t.records.set .b { t.records.b with setId := 2, stage := .drain } }],
      ((s.tc.moveClosing .a).usedSetIds .a).contains 1 = true ∧ ((s.tc.moveClosing .a).usedSetIds .a).contains 2 = true ∧
        ((s.tc.moveClosing .a).usedSetIds .a).contains 3 = false ∧ (s.tc.moveClosing .a).nextSetId .a = 3) ∧
    succSetId 65535 = 1 := by decide

/-- Whole messages: a QUERY of the part's state and a PARK. -/
def wholeMsgs : List (List Byte) := [[0x1B, 0, 6, 0, 1, 0], [0x11, 0, 6, 0, 2, 0]]

/-- Two whole messages in a frame; a message cut after its second byte; its rest and a second message, with and without a
named start; the shortest and the longest message. -/
theorem test_witness_StreamTaken_2 :
    (∀ y ∈ wholeMsgs, 6 ≤ y.length ∧ y.length ≤ 4106 ∧ fieldAt y 2 2 = y.length ∧ inboundKind (byteAt y 0) = true) ∧
    (∀ f ∈ [(⟨0, true, some 2, 2, [9, 9] ++ wholeMsgs.flatten ++ [0xEE], 0⟩ : Frame)],
      f.marker < 7 ∧ f.firstStart = some [9#8, 9#8].length ∧ f.begun = wholeMsgs.length ∧
        f.payload = [9, 9] ++ wholeMsgs.flatten ++ [0xEE] ∧ (svc.plu.get .a).expected = some f.marker) ∧
    (∀ f ∈ [(⟨0, true, some 1, 1, [9, 0x1B, 0], 0⟩ : Frame)],
      [0x1B#8, 0, 6, 0, 1, 0] = [0x1B, 0] ++ [6, 0, 1, 0] ∧ f.firstStart = some [9#8].length ∧ f.begun = 1 ∧
        f.payload = [9] ++ [0x1B, 0]) ∧
    (∀ s ∈ [plu .a (fun u => { u with rx := .collect [0x1B, 0] }) svc], nextDue s = none ∧ (s.plu.get .a).align = .aligned ∧
      (s.plu.get .a).rx = .collect [0x1B, 0]) ∧
    (∀ f ∈ [(⟨0, true, some 4, 1, [6, 0, 1, 0] ++ [0x11, 0, 6, 0, 2, 0] ++ [], 0⟩ : Frame)],
      f.begun = [[0x11#8, 0, 6, 0, 2, 0]].length ∧ f.firstStart = some [6#8, 0, 1, 0].length) ∧
    (∀ f ∈ [(⟨0, true, none, 0, [6, 0, 1, 0], 0⟩ : Frame)], f.begun = ([] : List (List Byte)).length ∧ f.firstStart = none) := by
  decide

theorem test_witness_StreamTaken_longest :
    ∀ y ∈ [[0x04#8, 0, 0x0A, 0x10, 1, 0] ++ List.replicate 4100 0], y.length = 4106 ∧ fieldAt y 2 2 = y.length ∧
      inboundKind (byteAt y 0) = true := by decide +kernel

/-- The seven words of a cycle that carry an identity, a health and a view code, and a pulse. -/
def cycleOf (id hv pulse : Word) : List Word := [id, hv, pulse, 0, 0, 0, 0]

/-- Port A at the last frame of a cycle with those words, each field one cycle short of settling. -/
def atCycleEnd (id hv pulse : Word) (h : Health) (v : PeerView) (s : State) : State :=
  plu .a (fun u => { u with
    expected := some 7, cycleWords := some (cycleOf id hv pulse),
    cand := ⟨some ⟨id, 1⟩, some ⟨h, 1⟩, some ⟨pulse.setWidth 8, 1⟩, some ⟨v, 1⟩⟩ }) s

/-- What the four fields settle to there. -/
def settledAt (s : State) (id hv pulse : Word) : Settled :=
  ⟨(settleField s.cfg.settleCount (s.plu.get .a).settled.identity (s.plu.get .a).cand.identity (some id)).1,
   (settleField s.cfg.settleCount (s.plu.get .a).settled.health (s.plu.get .a).cand.health
     (healthOfCode (hv.setWidth 8))).1,
   (settleField s.cfg.settleCount (s.plu.get .a).settled.pulse (s.plu.get .a).cand.pulse (some (pulse.setWidth 8))).1,
   (settleField s.cfg.settleCount (s.plu.get .a).settled.view (s.plu.get .a).cand.view
     (viewOfCode ((hv >>> 8).setWidth 8))).1⟩

/-- A frame of position 7 with no message ends a complete cycle. -/
def ends (s : State) : Bool :=
  decide (nextDue s = none) && (s.plu.get .a).align == .aligned && (s.plu.get .a).expected == some 7 &&
    (s.plu.get .a).rx == .seek && !criterionMet s.cfg.criterion [false]

/-- Nothing settles; a fence by IDENTITY, RESTART and SELF; a pulse that clears STALL, a health RUNNING that clears LINK. -/
theorem test_witness_FieldSettles_2 :
    (∀ s ∈ [atCycleEnd 0x11 0x0102 5 .running .seen svc], ends s = true ∧
      settledAt s 0x11 0x0102 5 = (s.plu.get .a).settled) ∧
    (∀ st ∈ [PortState.enrolled, .suspect, .held, .parking],
      ∀ s ∈ [setPort .a st (atCycleEnd 0x22 0x0102 5 .running .seen svc)], ends s = true ∧ s.port .a = st ∧
        s.ic.bridge ≠ .starting ∧ (settledAt s 0x22 0x0102 5).identity ≠ (s.plu.get .a).settled.identity ∧
        (settledAt s 0x22 0x0102 5).identity ≠ (s.sup.get .a).identity) ∧
    (∀ s ∈ [atCycleEnd 0x11 0x0101 5 .starting .seen svc], ends s = true ∧
      (s.plu.get .a).settled.health = .running ∧ (settledAt s 0x11 0x0101 5).health = .starting) ∧
    (∀ s ∈ [atCycleEnd 0x11 0x0104 5 .faulted .seen svc], ends s = true ∧
      (s.plu.get .a).settled.health ≠ .faulted ∧ (settledAt s 0x11 0x0104 5).health = .faulted) ∧
    (∀ st ∈ [PortState.suspect, .held],
      ∀ s ∈ [atCycleEnd 0x11 0x0102 6 .running .seen (svc.onSup .a fun u => { u with state := st, cause := .stall })],
      ends s = true ∧ (s.sup.get .a).cause = .stall ∧ (settledAt s 0x11 0x0102 6).pulse ≠ (s.plu.get .a).settled.pulse) ∧
    (∀ s ∈ [atCycleEnd 0x11 0x0102 5 .running .seen (plu .a (fun u => { u with settled := ⟨0x11, .leaving, 5, .seen⟩ })
        (svc.onSup .a fun u => { u with state := .suspect, cause := .link }))], ends s = true ∧
      (s.sup.get .a).cause = .link ∧ (s.plu.get .a).settled.health = .leaving ∧
        (settledAt s 0x11 0x0102 5).health = .running) := by decide

/-- The view settles to SEEN and to NOT SEEN beside a peer that is HELD or SUSPECT and confirmed, auto takeover on and off;
beside a peer that is not; and LEAVING settles. -/
theorem test_witness_FieldSettles_3 :
    (∀ st ∈ [PortState.held, .suspect], ∀ auto ∈ [true, false],
      ∀ x ∈ [(0x0102#16, PeerView.unknown, PeerView.seen), (0x0202#16, .seen, .notSeen)],
      ∀ s ∈ [withSettings (fun y => { y with autoTakeover := auto }) (atCycleEnd 0x11 x.1 5 .running x.2.2
        (plu .a (fun u => { u with settled := ⟨0x11, .running, 5, x.2.1⟩ })
          (svc.onSup .b fun u => { u with state := st, confirmed := true })))],
      ends s = true ∧ s.port .a = .enrolled ∧ s.port Port.a.peer = st ∧ (s.sup.get Port.a.peer).confirmed = true ∧
        s.cfg.autoTakeover = auto ∧ (settledAt s 0x11 x.1 5).view = x.2.2 ∧
        (settledAt s 0x11 x.1 5).view ≠ (s.plu.get .a).settled.view) ∧
    (svc.port Port.a.peer ≠ .held ∧ svc.port Port.a.peer ≠ .suspect) ∧
    (∀ s ∈ [atCycleEnd 0x11 0x0103 5 .leaving .seen svc], ends s = true ∧ (settledAt s 0x11 0x0103 5).health = .leaving ∧
      (settledAt s 0x11 0x0103 5).health ≠ (s.plu.get .a).settled.health) := by decide

/-- Control requests one byte too short and too long, at the edges of the length field; WRITE DATA of 6 and 10 bytes. -/
theorem test_witness_WrongLengths :
    (∀ h ∈ [hdr 7 1, hdr 9 1, hdr 12 1, hdr 4106 1], 6#16 ≤ h.length ∧ h.length ≤ 4106#16 ∧ h.length ≠ 6 ∧ h.length ≠ 8 ∧
      h.length ≠ 10 ∧ h.length ≠ 11) ∧
    (∀ h ∈ [hdr 6 1, hdr 8 1], 6#16 ≤ h.length ∧ h.length ≠ 7) ∧
    (∀ h ∈ [hdr 6 0, hdr 10 0], 6#16 ≤ h.length ∧ h.length < 11#16) := by decide

/-- A park timer that runs, and one that is stopped, while the report that its port is clear is due. -/
theorem test_witness_TimersFence_2 :
    ∀ k ∈ [some 10, none],
      ∀ s ∈ [((svc.onSup .a fun u => { u with state := .parking, park := k }).onTc fun t =>
        { t with parks := ⟨some ⟨.drive, 5, none, false⟩, none⟩ }).onDct fun d => { d with clearReq := ⟨true, false⟩ }],
      nextDueHolding (some .a) s = none ∧ nextDue s = some (.portClear .a) ∧ (s.sup.get .a).park = k ∧
        s.port .a = .parking := by decide

/-- A READ of port A with its READ DATA of some bytes in the data list, and a place in the part that is sent. -/
def readListed (n : Nat) (k : Option (Turn × Nat)) (done : List ReadDone) : State :=
  plu .a (fun u => { u with dataList := [.readData 1 1 0 (List.replicate n 7)], tx := k, readDone := done })
    (withEntries [ent 1 .a .read, aborting (ent 2 .a .read)] svc)

/-- A READ that ends while its READ DATA is listed; READ DATA of 1 and 1,014 bytes, whose message fits a frame, and of
1,015, whose message does not, at its start and after one frame. -/
theorem test_witness_EntryEnds_2 :
    (∀ s ∈ [readListed 1 none []], nextDue s = none ∧ s.dct.find 1 = some (ent 1 .a .read) ∧
      (ent 1 .a .read).watched = none ∧ (ent 1 .a .read).seq = 1 ∧
      (s.plu.get .a).dataList = [.readData 1 1 0 [7]] ∧ (aborting (ent 2 .a .read)).abort.isSome = true) ∧
    (∀ x ∈ [(1, none, 0), (2, some (Turn.data, 1024), 1024)], ∀ s ∈ [readListed x.1 x.2.1 [⟨1, true, 1, .good, 0⟩]],
      nextDue s = none ∧ (s.plu.get .a).outQueue = [] ∧ (s.plu.get .a).tx = x.2.1 ∧
        (s.plu.get .a).readDone = [⟨1, true, 1, .good, 0⟩]) := by decide

theorem test_witness_EntryEnds_sizes :
    ((DataMsg.readData 1 1 0 (List.replicate 1014 7)).bytes.length = 1024) ∧
    ((DataMsg.readData 1 1 0 (List.replicate 1015 7)).bytes.length = 1025) := by decide +kernel

/-- Two steps that wait, the second at a mark; a step of each kind that is free, of some extents and of none. -/
theorem test_witness_DrainReported_2 :
    (∀ us ∈ [[stepOf .park none [] (some .a) none .waiting,
        { stepOf .takeover none [] (some .b) none .waiting with id := 1 }]],
      ∀ s ∈ [withExts [ext (some .a) 1, marked .claim (some .a) (ext (some .b) 1)] svc |>.onOc fun o =>
        { o with steps := us, admitDue := true }], s.oc.admitDue = true ∧
        (∃ e ∈ s.oc.extents, concernedIn .takeover (some .b) e = true ∧ e.mark ≠ none)) ∧
    (∀ x ∈ [(StepKind.park, some Port.a), (.takeover, some .a), (.release, some .a), (.clear, none)],
      (∀ e ∈ svc.oc.extents, concernedIn x.1 x.2 e = true → e.mark = none) ∧ svc.oc.wholeSet x.1 x.2 ≠ [] ∧
        (∀ s ∈ [withExts [ext none 0] svc], s.oc.wholeSet x.1 x.2 = [] ∧
          ∀ e ∈ s.oc.extents, concernedIn x.1 x.2 e = true → e.mark = none)) := by decide

/-- The handover of port A with a waiting claim of B, on an extent of an owner, and the extents left with a mark or not. -/
def handClaim (k : StepKind) (d : Option Port) (e : Extent) : State :=
  (handing k d).onOc fun o =>
    { o with claims := [{ claimA with claimant := .b, state := .waiting, deadline := none }],
             extents := o.extents.set 2 { e with claim := some 4 } }

/-- A claim that waits through a takeover or a park: the holder still owns, NONE, the claimant's, and a mark left. -/
theorem test_witness_HandoverCompletes_2 :
    (∀ k ∈ [StepKind.takeover, .park], ∀ d ∈ [some Port.b, none],
      ∀ e ∈ [ext (some .a) 1, ext none 1, ext (some .b) 1, marked .release none (ext (some .b) 1)],
      ∀ s ∈ [handClaim k d e, sat (handClaim k d e)], s.oc.admitDue = false ∧ s.ic.served = [⟨.step 0, true⟩] ∧
        s.oc.claims = [{ claimA with claimant := .b, state := .waiting, deadline := none }] ∧
        s.oc.findStep 0 = some { stepK k with dest := some d } ∧ s.tc.closing = []) ∧
    (∀ s ∈ [handClaim .takeover none (ext none 1)], (s.tc.records.get .a).step = some 0 ∧ s.oc.emap ≠ BitVec.allOnes 32) ∧
    (∀ s ∈ [handClaim .park none (ext none 1)], s.tc.parks.get .a = some ⟨.persist, 5, some 0, false⟩) := by decide

/-- A DISCLAIM released while a claim is owed its settlement. -/
theorem test_witness_HandoverCompletes_3 :
    ∀ e ∈ [ext (some .b) 1, ext none 1, marked .claim (some .a) (ext (some .a) 1)],
      ∀ s ∈ [(withServed (.step 0) true (withStep (stepK .disclaim) claimed)).onOc fun o =>
        { o with claims := [{ claimA with state := .waiting, deadline := none, owed := true }],
                 extents := o.extents.set 2 { e with claim := some 4 } }],
      s.oc.admitDue = false ∧ s.ic.served = [⟨.step (stepK .disclaim).id, true⟩] ∧
        s.oc.findStep (stepK .disclaim).id = some (stepK .disclaim) ∧ (stepK .disclaim).port = some .a ∧
        (stepK .disclaim).ref = some 3 ∧ (∀ c ∈ s.oc.claims, c.state = .waiting ∧ c.owed = true) ∧ s.oc.claims.length = 1 := by
  decide

/-- A takeover whose record has passed to the closing list, with a destination and without; a park that a fence cut. -/
theorem test_witness_HandoverCompletes_4 :
    (∀ d ∈ [some Port.b, none], ∀ s ∈ [(handing .takeover d).onTc fun t =>
        { t with closing := [⟨.a, 6, d, 1, 0⟩], records := t.records.set .a Takeover.reset }],
      s.oc.admitDue = false ∧ s.ic.served = [⟨.step 0, true⟩] ∧ s.oc.claims = [] ∧
        s.tc.closing.find? (fun y => y.step = 0) = some ⟨.a, 6, d, 1, 0⟩) ∧
    (∀ d ∈ [some Port.b, none], ∀ s ∈ [(handing .park d).onTc fun t => { t with parks := ⟨some ⟨.persist, 5, some 0, true⟩, none⟩ }],
      s.oc.admitDue = false ∧ s.ic.served = [⟨.step 0, true⟩] ∧ s.tc.parks.get .a = some ⟨.persist, 5, some 0, true⟩ ∧
        (s.oc.findStep 0).map (fun u => (u.kind, u.port, u.dest)) = some (.park, some .a, some d)) := by decide

/-- Entries of every kind in one table, a READ with READ DATA listed, and two READ COMPLETIONs that wait. -/
def mixed : State :=
  plu .a (fun u => { u with dataList := [.readData 0 0 0 [1, 2], .transferReady 1 512],
                            readDone := [⟨77, true, 40, .good, 0⟩, ⟨78, false, 41, .good, 0⟩] })
    (queued .a [qrec .read 20] (withSet 9 [{ intent .notYet with seq := 1 }]
      (withEntries [aborting (ent 0 .a .read), { ent 1 .a .write with watched := some 9 }, ent 2 .a .flush,
        ent 3 .b .write, bridgeEnt .write, { ent 4 .a .read with watched := some 9 }] svc)))

theorem test_witness_DriveResetStarted_2 :
    (nextDue mixed = none ∧ mixed.ic.bridge ≠ .starting ∧ mixed.dct.drive = .ready ∧ mixed.dct.prsnLow = true ∧
      mixed.dct.find 0 = some (aborting (ent 0 .a .read)) ∧ (aborting (ent 0 .a .read)).abort.isSome = true ∧
      (mixed.plu.get .a).sending 0 = true ∧ (mixed.plu.get .a).sending 1 = false) ∧
    (∀ s ∈ [withEntries [aborting (bridgeEnt .read)] (inBridge .starting (setPort .a .offline svc))],
      nextDue s = none ∧ s.ic.bridge = .starting ∧ s.dct.entries = [aborting (bridgeEnt .read)] ∧ s.port .a = .offline) := by
  decide

/-- A part being re-attached, with a claim of A that asks, one of B in TRANSFERRING, a command queued and port B OFFLINE. -/
def resettingBusy (no : Nat) : State :=
  queued .a [qrec .read 20] (setPort .b .offline ((claimed.onDct fun d =>
    { d with drive := .resetting, reattachTimer := some 5, reattachNo := no }).onOc fun o =>
    { o with claims := [claimA, { claimA with id := 6, claimant := .b, state := .transferring, ref := 3 }],
             extents := o.extents.set 0 { ext (some .a) 7 with claim := some 6 } }))

theorem test_witness_ReattachEnds_2 :
    ∀ no ∈ [1, 2], ∀ s ∈ [resettingBusy no], nextDue s = none ∧ s.dct.drive = .resetting ∧
      s.dct.reattachTimer.isSome = true ∧ s.dct.reattachNo = no ∧ s.dct.firstAttach ≠ some (1089, 512) ∧
      (s.oc.claims.map fun x => x.id).Nodup ∧ s.port .b = .offline ∧ (s.plu.get .b).align ≠ .down ∧
      s.oc.claims.map (fun x => x.state) = [.asking, .transferring] := by decide

/-- The default settings, and each number at its least and at its greatest value. -/
theorem test_witness_SettingsInRange :
    ∀ x ∈ [Settings.default,
        { Settings.default with kReq := 8, window := 8, guar := ⟨8, 0⟩, depth := 8, threshold := 1, tLl := 8, settleCount := 3,
                                stallLimit := 100, tCf := 100, tDrn := 500, tPk := 1, tCmd := 1, tAbt := 500, tRel := 100,
                                tSw := 5 },
        { Settings.default with kReq := 30, window := 64, guar := ⟨64, 0⟩, threshold := 1000, tLl := 504, stallLimit := 65000,
                                tCf := 30000, tDrn := 30000, tPk := 60, tCmd := 120, tAbt := 10000, tRel := 10000,
                                tSw := 600 }], x.InRange := by
  unfold Settings.InRange; decide

/-- A buffer that holds no image, and one that holds a valid one. -/
theorem test_witness_ImageReadEnds_2 :
    imageValid reading.oc.visible (imageRead reading.ic.readBuf) = false ∧ reading.oc.visible = 1024 ∧
      (∀ s ∈ [reading.onIc fun c => { c with readBuf := imageOf (withSettings (fun _ => settingsOfRaw
          { rawDefault with kReq := 8 }) svc) 5 }], imageValid s.oc.visible (imageRead s.ic.readBuf) = true) := by
  decide +kernel

/-- Records of a length that their kind does not have. -/
theorem test_witness_ManagementReads_2 :
    (([] : List Byte).length < 2 ∧ [7#8].length < 2) ∧
    (∀ k ∈ [1#8, 4#8, 5#8], recordLength k ≠ some (([1, 2] : List Byte).length + 2)) ∧
    (∀ k ∈ [0#8, 8#8], recordLength k ≠ some (([] : List Byte).length + 2)) := by decide

/-- The straps at each of their levels. -/
theorem test_witness_FullReset_straps :
    ∀ m0 ∈ [true, false], ∀ m1 ∈ [true, false],
      (after (.fullReset m0 m1) svc).mi.address = 0x58#7 + (if m0 then 1 else 0) + (if m1 then 2 else 0) := by decide

/-- Port B under judgement, HELD, or SUSPECT and confirmed, with the view that A's server has of it and auto takeover on
or off. -/
def judgedB (st : PortState) (v : PeerView) (auto : Bool) (s : State) : State :=
  withSettings (fun x => { x with autoTakeover := auto })
    (plu .a (fun u => { u with settled := { u.settled with view := v } })
      (s.onSup .b fun u => { u with state := st, confirmed := st == .suspect }))

/-- The eight states of a part whose port B is judged. -/
def judgements (s : State) : List State :=
  [judgedB .held .seen true s, judgedB .held .seen false s, judgedB .held .notSeen true s, judgedB .held .unknown false s,
    judgedB .suspect .seen true s, judgedB .suspect .seen false s, judgedB .suspect .unknown true s,
    judgedB .suspect .notSeen false s]

/-- Port A comes back from DOWN to ENROLLED, or stays SUSPECT, beside a peer that is judged. -/
theorem test_witness_AlignmentSearch_2 :
    ∀ st ∈ [PortState.suspect, .held], ∀ c ∈ [Cause.link, .stall],
      ∀ s ∈ judgements (down2 .a (svc.onSup .a fun u => { u with state := st, cause := c })),
      nextDue s = none ∧ s.port .a = st ∧ (s.sup.get .a).cause = c ∧ (s.plu.get .a).align = .down ∧
        (s.plu.get .a).run = 2 ∧ (frm 2 true).marker = ((s.plu.get .a).runMarker + 1) % 8 ∧
        (s.plu.get .a).settled.health = .running ∧
        (s.port Port.a.peer = .held ∨ s.port Port.a.peer = .suspect ∧ (s.sup.get Port.a.peer).confirmed = true) := by
  decide

/-- An ENROL that needs no release, in SERVICE and in RECOVERY, and the release of one that needed it, beside a peer that
is judged. -/
theorem test_witness_EnrolAccepted_2 :
    (∀ st ∈ [PortState.linked, .fenced], ∀ s ∈ judgements (setPort .a st svc), nextDue s = none ∧
      s.ic.bridge = .service ∧ s.port .a = st ∧ (s.tc.records.get .a).stage = .closed ∧ (s.sup.get .a).enrol = none ∧
      (s.plu.get .a).settled.health = .running ∧ s.oc.ownerId.get .a = (s.plu.get .a).settled.identity ∧
      (s.sup.get Port.a.peer).judged = true) ∧
    (∀ s ∈ judgements (recovering .idle), nextDue s = none ∧ s.ic.bridge = .recovery ∧ s.port .a = .linked ∧
      (s.sup.get .a).enrol = none ∧ (s.plu.get .a).settled.health = .running ∧ s.oc.owns .a = false ∧
      (s.sup.get Port.a.peer).judged = true) ∧
    (∀ s ∈ judgements (withServed (.step 0) true (withStep (stepK .release) (enrolling .linked svc))),
      s.oc.admitDue = false ∧ s.ic.served = [⟨.step (stepK .release).id, true⟩] ∧
        s.oc.findStep (stepK .release).id = some (stepK .release) ∧ s.oc.claims = [] ∧
        (s.sup.get .a).enrol = some ⟨5, 9, .linked, 0x11, true⟩ ∧ s.port .a = .linked ∧
        (s.plu.get .a).align ≠ .down ∧ (s.plu.get .a).settled.health = .running ∧
        (s.plu.get .a).settled.identity = 0x11 ∧ (s.sup.get Port.a.peer).judged = true ∧
        ∀ w ∈ s.oc.steps, w.id = (stepK .release).id) := by decide

/-- What becomes of the peer at such an ENROL: HELD while it is SEEN, and else SUSPECT, or FENCED with auto takeover. -/
theorem test_EnrolAccepted_judges :
    (judgements (setPort .a .linked svc)).map (fun s => (after (.enrol .a (hdr 10 1) 0) s).port .b) =
      [.held, .held, .fenced, .suspect, .held, .held, .fenced, .suspect] := by decide

/-- A part at the greatest epoch with a CLAIM step of an open claim, one of a CLAIM without a claim, and a RELEASE step of
an ENROL, each alone or beside a step that waits. -/
def refusing (k : StepKind) (r : Option Word) (cs : List Claim) (more : List TransferStep) : State :=
  (sat (enrolling .linked svc)).onOc fun o =>
    { o with claims := cs, steps := stepOf k (some (some .a)) [0, 3] (some .a) r .quiesce :: more, nextStep := 2 }

theorem test_witness_StepCommits_2 :
    (∀ more ∈ [[], [{ stepOf .park none [] (some .b) none .waiting with id := 1 }]],
      ∀ s ∈ [refusing .claim none [{ claimA with state := .transferring, step := some 0 }] more,
             refusing .claim (some 3) [] more, refusing .release (some 5) [] more],
      s.oc.findStep 0 = s.oc.steps.head? ∧ (∀ e ∈ s.oc.extents, e.inflight = 0) ∧ s.oc.emap = BitVec.allOnes 32 ∧
        (∀ c ∈ s.oc.claims, c.owed = false) ∧ (s.sup.get .a).enrol.isSome = true) ∧
    (∀ s ∈ [refusing .claim none [{ claimA with state := .transferring, step := some 0 }] []],
      s.oc.claims.find? (fun d => d.step = some 0) = some { claimA with state := .transferring, step := some 0 }) ∧
    (∀ k ∈ [StepKind.takeover, .park], ∀ u ∈ [{ stepK k with stage := .quiesce }], ∀ s ∈ [withStep u (handing k none)],
      s.oc.findStep u.id = some u ∧ (∀ e ∈ s.oc.extents, e.inflight = 0) ∧ s.oc.emap ≠ BitVec.allOnes 32 ∧
        (k = .takeover → (s.tc.records.get .a).step = some u.id) ∧
        (k = .park → s.tc.parks.get .a = some ⟨.persist, 5, some u.id, false⟩)) := by decide

/-- The answers of those three ends. -/
theorem test_StepCommits_refused :
    (after (.quiesceMetCommit 0) (refusing .claim none [{ claimA with state := .transferring, step := some 0 }] [])).plu.a.outQueue =
        [.answer 9 noFlags .exhausted (.claim 4 (BitVec.allOnes 32))] ∧
      (after (.quiesceMetCommit 0) (refusing .claim (some 3) [] [])).plu.a.outQueue =
        [.answer 3 noFlags .exhausted (.claim 0 (BitVec.allOnes 32))] ∧
      (after (.quiesceMetCommit 0) (refusing .release (some 5) [] [])).plu.a.outQueue =
        [.answer 5 noFlags .exhausted (.enrol (BitVec.allOnes 32) 0 0)] := by decide

/-- A fence that finds a claim of each port, that of the peer in each state; and one that finds the peer's claim alone. -/
theorem test_witness_FenceCutsOff_3 :
    ∀ st ∈ [ClaimState.asking, .waiting, .transferring],
      ∀ s ∈ [busyA.onOc fun o => { o with claims := [claimA, { claimA with id := 5, claimant := .b, state := st }] }],
      s.port .a ≠ .fenced ∧ s.ic.bridge ≠ .starting ∧ claimA ∈ s.oc.claims ∧ claimA.claimant = .a ∧
        (∀ d ∈ s.oc.claims, d.claimant = .a → d = claimA) ∧ (∀ d ∈ s.oc.claims, d.id = claimA.id → d = claimA) ∧
        (∀ d ∈ s.oc.claims.drop 1, d.claimant ≠ .a) ∧
        (fencePort .a .peerRequest s).oc.claims =
          [{ claimA with id := 5, claimant := .b, state := if st = .transferring then st else .waiting,
                         deadline := if st = .transferring then claimA.deadline else none }] := by decide

/-- An image command with its abort sent, at each attempt; the same of the image READ. -/
theorem test_witness_ImageCycleRuns_2 :
    (∀ c ∈ [CycleState.writing, .flushing], ∀ n ∈ [1, 2, 3],
      ∀ s ∈ [(withEntries [aborting (bridgeEnt .write)] svc).onIc fun i => { i with cycle := c, attempt := n }],
      nextDue s = none ∧ s.dct.find (bridgeEnt .write).tag = some (aborting (bridgeEnt .write)) ∧
        (aborting (bridgeEnt .write)).abort.isSome = true ∧ s.ic.bridge ≠ .starting ∧ s.ic.cycle ≠ .idle ∧
        s.ic.attempt = n) ∧
    (∀ s ∈ [withEntries [aborting (bridgeEnt .read)] reading], nextDue s = none ∧
      s.dct.find (bridgeEnt .read).tag = some (aborting (bridgeEnt .read)) ∧ s.ic.bridge = .starting) := by decide

/-- ALERT with no event pending and with one. -/
theorem test_witness_ManagementReads_3 :
    Quiet svc ∧ svc.alertLow = false ∧ Quiet (raise .driveLost svc) ∧ (raise .driveLost svc).alertLow = true := by
  unfold Quiet; decide

/-- A sound state with a command waiting, which the step takes: all the invariants' premises at once. -/
theorem test_witness_invariants :
    ∀ s ∈ [({ busyA with pending := [.arbiterDecision] } : State)],
      step s = .next (after .arbiterDecision { s with pending := [] }) ∧
      (∀ p ∈ [Port.a, .b], (s.plu.get p).outQueue.length ≤ 192 ∧ (s.au.queue.get p).length ≤ s.au.depth.get p ∧
        (s.ic.bridge ≠ .service → s.au.queue.get p = [])) ∧
      s.tc.intents.length ≤ 2 ∧ s.au.granted.a + s.au.granted.b = s.au.w ∧
      (s.dct.drive = .lost ↔ s.ic.bridge = .halted) ∧ (s.dct.drive ≠ .ready → s.dct.entries = []) ∧
      (s.dct.drive = .ready → 1 ≤ s.dct.depth) ∧ (s.dct.entries.map (·.tag)).Nodup ∧
      (∀ e ∈ s.dct.entries, e.tag < s.dct.depth) ∧
      (2 ≤ s.dct.depth → ∀ e ∈ s.dct.entries, (e.tag = s.dct.depth - 1 ↔ e.origin = .bridge)) ∧
      (∀ e ∈ s.oc.extents, e.epoch ≤ s.oc.emap) ∧ s.ic.bridge ≠ .starting ∧
      (s.plu.a.localPos = s.plu.b.localPos ∧ s.plu.a.localPos < 8) := by
  intro s h
  obtain rfl : s = { busyA with pending := [.arbiterDecision] } := by simpa using h
  exact ⟨rfl, by decide⟩

/-! ### The check of well-formedness refuses an ill-formed term of each kind -/

/-- A frame with the 1,024 payload bytes of R1. -/
def fullFrame (start : Option Nat) (begun : Nat) : Frame := ⟨0, true, start, begun, List.replicate 1024 0, 0⟩

theorem test_wf_frame_short_payload : Instr.wf (.alignedFrame .a queryFrame) = false := by decide
theorem test_wf_frame_start_without_message : Instr.wf (.candidateFrame .a (fullFrame (some 0) 0)) = false := by
  decide +kernel
theorem test_wf_frame_message_without_start : Instr.wf (.alignedFrame .a (fullFrame none 1)) = false := by decide +kernel
theorem test_wf_frame_start_beyond_payload : Instr.wf (.alignedFrame .a (fullFrame (some 1024) 1)) = false := by
  decide +kernel
theorem test_wf_length_not_out_of_range : Instr.wf (.lengthOutOfRange .a (hdr 6 0)) = false := by decide
theorem test_wf_kind_not_undefined : Instr.wf (.undefinedKind .a 0x1B (hdr 6 0)) = false := by decide
theorem test_wf_header_too_short : Instr.wf (.stateQuery .a (hdr 5 0)) = false := by decide
theorem test_wf_header_too_long : Instr.wf (.read .a (hdr 4107 0) 0 0 1) = false := by decide
theorem test_wf_data_against_length : Instr.wf (.writeData .a (hdr 12 0) 0 [1]) = false := by decide
theorem test_wf_record_not_malformed : Instr.wf (.malformedRecord [0x01, 9]) = false := by decide
theorem test_wf_completion_tag : Instr.wf (.driveCompletion 32 .good 0) = false := by decide
theorem test_wf_read_data_tag : Instr.wf (.driveReadData 32 0 [1]) = false := by decide
theorem test_wf_read_data_empty : Instr.wf (.driveReadData 0 0 []) = false := by decide
theorem test_wf_read_data_too_long : Instr.wf (.driveReadData 0 0 (List.replicate 4097 0)) = false := by decide +kernel
theorem test_wf_abort_answer_tag : Instr.wf (.abortAnswer 32 true) = false := by decide
theorem test_wf_command_timer_tag : Instr.wf (.commandTimerExpiry 32) = false := by decide
theorem test_wf_abort_timer_tag : Instr.wf (.abortTimerExpiry 32) = false := by decide
theorem test_wf_claim_id_zero : Instr.wf (.claimDeadlineExpiry 0) = false := by decide
theorem test_wf_accepts :
    (Instr.wf (.alignedFrame .a (fullFrame (some 1023) 1)) && Instr.wf (.alignedFrame .a (fullFrame none 0)) &&
      Instr.wf (.read .a (hdr 18 0) 0 0 1) && Instr.wf (.writeData .a (hdr 12 0) 0 [1, 2]) &&
      Instr.wf (.malformedRecord [0x04, 9]) && Instr.wf (.undefinedKind .a 0x33 (hdr 20 0))) = true := by decide +kernel

/-! ### Worked values of the manual -/

/-- 3.2, Worked geometry. -/
theorem test_worked_geometry :
    (visibleOf 1953525168 = 1953525104 ∧ shiftOf 1953525104 16 = 21 ∧ extentsOf 1953525104 21 = 932) ∧
    (visibleOf 200064 = 200000 ∧ shiftOf 200000 8 = 8 ∧ extentsOf 200000 8 = 782) ∧
    (visibleOf 320 = 256 ∧ shiftOf 256 16 = 16 ∧ extentsOf 256 16 = 1) := by decide

/-- 3.3, Worked spans. -/
theorem test_worked_spans :
    (rangeOf 21 4194000 400 = ⟨4194000, 400, 1, 2⟩ ∧ blocksIn 21 (rangeOf 21 4194000 400) 1 = 304 ∧
      blocksIn 21 (rangeOf 21 4194000 400) 2 = 96) ∧
    rangeOf 21 2097152 65535 = ⟨2097152, 65535, 1, 1⟩ ∧ rangeOf 21 1953524000 1104 = ⟨1953524000, 1104, 931, 931⟩ ∧
    rangeBeyond 1953525104 (some (1953525000, 200)) = true ∧ rangeEmpty (some (100, 0)) = true ∧
    (rangeOf 8 255 65535 = ⟨255, 65535, 0, 256⟩ ∧ blocksIn 8 (rangeOf 8 255 65535) 0 = 1 ∧
      blocksIn 8 (rangeOf 8 255 65535) 256 = 254) := by decide

/-- R167: "when the other 4,159 words sum to 3A17h, the checksum word is 443Ah", "When they sum to 9C02h, the checksum
word is E24Fh". -/
theorem test_worked_checksum : checksumFor 0x3A17 = 0x443A ∧ checksumFor 0x9C02 = 0xE24F := by decide

/-- R184: "with W written as 70, G_A as 40 and G_B as 30, W becomes 64, both guarantees are within 0..64, and G_B becomes
64 − 40 = 24." -/
theorem test_worked_config :
    ∀ r ∈ [{ rawDefault with window := 70, guarA := 40, guarB := 30 }], (settingsOfRaw r).window = 64 ∧
      (settingsOfRaw r).guar = ⟨40, 24⟩ ∧ rawClamped r = true ∧ rawClamped rawDefault = false := by decide

/-- R167: the image of a part sums to 7E51h and is read back. -/
theorem test_image_valid :
    ∀ s ∈ [withSettings (fun _ => settingsOfRaw { rawDefault with kReq := 8 }) svc],
      imageValid 1024 (imageOf s 5) = true ∧ (decodeImage 1024 (imageOf s 5)).extents = s.oc.extents := by decide +kernel

/-- 5.5, A share window with uneven guarantees: what each row selects. -/
theorem test_worked_share_window :
    ∀ x ∈ [(0, 0, 0, Port.b, Port.a), (1, 1, 0, .a, .b), (2, 1, 1, .b, .a), (3, 2, 1, .a, .b), (4, 2, 2, .b, .a),
        (5, 3, 2, .a, .b), (6, 3, 3, .b, .a), (7, 4, 3, .a, .a)],
      ({ Au.reset with w := x.1, granted := ⟨x.2.1, x.2.2.1⟩, last := x.2.2.2.1, window := some ⟨8, ⟨5, 2⟩⟩ } : Au).turn =
        x.2.2.2.2 := by decide

/-- 1.8, Loss and regain of alignment: the third error of eight is at the last of these frames. -/
theorem test_worked_loss :
    criterionMet .threeOfEight [false, true, false, true, false] = false ∧
      criterionMet .threeOfEight [false, true, false, true, false, true] = true ∧ phaseOf 0 2 = 6 := by decide

/-- 1.8, Settling a change of health, settle count 2: cycles 2, 3, 4 and 5 of the health field. -/
theorem test_worked_settling :
    settleField 2 Health.running none (some .leaving) = (.running, some ⟨.leaving, 1⟩) ∧
      settleField 2 Health.running (some ⟨.leaving, 1⟩) (some .leaving) = (.leaving, none) ∧
      settleField 2 Health.leaving none none = (.leaving, none) ∧
      settleField 2 Health.leaving (some ⟨.faulted, 1⟩) (some .faulted) = (.faulted, none) := by decide

/-- R36, R24, R28, R30: bytes of messages, written out from the tables of chapter 2. -/
theorem test_message_bytes :
    (OutMsg.completion 5 .tagInUse 0).bytes = [0x81, 0, 9, 0, 5, 0, 0x0C, 0, 0] ∧
      (OutMsg.answer 8 noFlags .invalid (.claim 0 41)).bytes = [0x90, 0, 13, 0, 8, 0, 0x12, 0x0C, 0, 41, 0, 0, 0] ∧
      (OutMsg.fenceNotice .admin 9 0x0102).bytes = [0x92, 0, 13, 0, 0, 0, 0x07, 9, 0, 0x02, 0x01, 0, 0] ∧
      (DataMsg.transferReady 5 4096).bytes = [0x83, 0, 10, 0, 5, 0, 0x00, 0x10, 0, 0] := by decide

/-- R1, R35, R36: overhead words in their bytes. -/
theorem test_words : wordOf 0x02 0x07 = 0x0702 ∧ lowByte 0x0702 = 0x02 ∧ highByte 0x0702 = 0x07 := by decide

/-! ### One step of each command -/

theorem test_step_idle : step svc = .next svc := rfl
theorem test_step_front : step { svc with pending := [.readEvents 1, .frameSend] } =
    .next (after (.readEvents 1) { svc with pending := [.frameSend] }) := rfl
theorem test_fullReset : (after (.fullReset true false) busyA).mi.address = 0x59 ∧
    (after (.fullReset true false) busyA).dct.drive = .attaching := by decide
theorem test_restart : after (.restart 3) busyA = after (.fullReset false false) busyA := by rfl
theorem test_candidateFrame_third :
    ∀ t ∈ [after (.candidateFrame .a (frm 2 true)) (down2 .a (setPort .a .offline svc))],
      (t.plu.get .a).align = .aligned ∧ t.port .a = .linked ∧ (t.plu.get .a).expected = some 3 := by decide
theorem test_alignedFrame_query :
    ((after (.alignedFrame .a queryFrame) svc).plu.get .a).outQueue =
      [.answer 0x0102 noFlags .done (.stateQuery (svc.view .a))] := by decide
theorem test_frameSend_message :
    ((after .frameSend (plu .a (fun u => { u with outQueue := [msg] }) svc)).plu.get .a).lastFrame =
      some ⟨0, true, some 0, [0x81, 0, 9, 0, 1, 0, 0, 0, 0], 0, 0x0202⟩ := by decide
/-- R1: 1,024 payload bytes in every frame, with a message and without; the two ports use different free values. -/
theorem test_frameSend_fill :
    ∀ t ∈ [after .frameSend (plu .a (fun u => { u with outQueue := [msg] }) svc)],
      ((t.plu.get .a).lastFrame.map fun f => (f.good, f.stream.length, f.fillAt)) = some (true, 1024, 0) ∧
        ((t.plu.get .b).lastFrame.map fun f => (f.good, f.stream.length, f.fillAt)) = some (true, 1024, 1024) ∧
        t.fillNext = 2048 := by decide +kernel
theorem test_tLlExpiry :
    ∀ t ∈ [after (.tLlExpiry .a) (plu .a (fun u => { u with align := .losing, tLl := some 40 }) svc)],
      t.port .a = .suspect ∧ (t.sup.get .a).cause = .link ∧ (t.plu.get .a).linkLoss = 1 ∧ t.alertLow = true := by decide
theorem test_checkErrorWindowEnd :
    ((after (.checkErrorWindowEnd .a) (plu .a (fun u => { u with checkErrors := 64, degraded := true }) svc)).plu.get .a).degraded =
      false := by decide
theorem test_pulseStallLimit :
    ((after (.pulseStallLimit .a) (svc.onSup .a fun u => { u with stallDue := true })).sup.get .a).cause = .stall := by decide
theorem test_lengthOutOfRange : ((after (.lengthOutOfRange .a (hdr 5 1)) svc).plu.get .a).damaged = 1 := by decide
theorem test_undefinedKind : ((after (.undefinedKind .a 0x33 (hdr 20 1)) svc).plu.get .a).damaged = 1 := by decide
theorem test_read_queued : (after (.read .a (hdr 18 5) 7 255 2) svc).au.queue.get .a = [⟨5, .read, some ⟨255, 2, 0, 1⟩, 7⟩] := by decide
theorem test_write_tag_in_use :
    ((after (.write .a (hdr 18 5) 7 0 8) (queued .a [qrec .write 5] svc)).plu.get .a).outQueue =
      [.completion 5 .tagInUse 0] := by decide
theorem test_flush_not_ready :
    ((after (.flush .a (hdr 10 5) 7) (inBridge .recovery svc)).plu.get .a).outQueue = [.completion 5 .notReady 0] := by decide
theorem test_writeData :
    (after (.writeData .a (hdr 12 0) 0 [1, 2]) (withEntries [ent 0 .a .write] svc)).dct.out = [.writeData 0 0 [1, 2]] := by decide
theorem test_enrol_was_fenced :
    ((after (.enrol .a (hdr 10 3) 9) (setPort .a .fenced svc)).plu.get .a).outQueue =
      [.answer 3 ⟨false, false, true, false⟩ .done (.enrol 7 0 0)] := by decide
theorem test_park : ((after (.park .a (hdr 6 3)) svc).sup.get .a).park = some 10 := by decide
theorem test_claim_asks :
    ((after (.claim .a (hdr 10 3) 2 1) svc).plu.get .b).outQueue = [.releaseAsk 1 .a 2 1 2000] := by decide
theorem test_yieldClaim :
    (after (.yieldClaim .b (hdr 7 3) 4) claimed).oc.steps =
      [⟨0, .claim, some (some .a), [2], some .a, none, .quiesce, none⟩] := by decide
theorem test_keepClaim :
    ((after (.keepClaim .b (hdr 7 3) 4) claimed).plu.get .a).outQueue = [.answer 9 noFlags .denied (.claim 4 7)] := by decide
theorem test_disclaim_commits :
    ∀ t ∈ [after .arbiterDecision (after (.disclaim .a (hdr 10 3) 0 1) svc)],
      t.oc.emap = 8 ∧ (t.oc.extents.map fun e => (e.owner, e.epoch)).head? = some (none, 8) := by decide
theorem test_setPolicy :
    ((after (.setPolicy .a (hdr 11 3) 0 1 1) svc).oc.extents.map (·.policy)) = [.owner, .shared, .shared, .shared] := by decide
theorem test_takeover :
    ∀ t ∈ [after (.takeover .a (hdr 7 3) 2) svc], t.port .b = .fenced ∧
      (t.plu.get .a).outQueue = [.answer 3 noFlags .done (.takeover 2 1)] ∧
      (t.plu.get .b).outQueue = [.fenceNotice .peerRequest 1 7] := by decide
theorem test_mapQuery_clamped :
    ((after (.mapQuery .a (hdr 10 7) 3 64) svc).plu.get .a).outQueue =
      [.answer 7 ⟨false, true, false, false⟩ .done (.mapQuery ⟨7, 8, 4, 1024, 3, [⟨none, .shared, none, 0, 0⟩]⟩)] := by decide
theorem test_intentRead_open :
    ((after (.intentRead .b (hdr 8 3) 3) (withSet 3 [intent .notYet] svc)).plu.get .b).outQueue =
      [.answer 3 noFlags .retry (.intentRead 3 (some .a) [])] := by decide
theorem test_intentClear : (after (.intentClear .b (hdr 8 3) 3) (withSet 3 [intent .notYet] svc)).tc.intents = [] := by decide
theorem test_stateQuery :
    ((after (.stateQuery .a (hdr 6 3)) svc).plu.get .a).outQueue = [.answer 3 noFlags .done (.stateQuery (svc.view .a))] := by decide
theorem test_readState : (after (.readState 9) svc).mi.answer.body.length = 96 := by decide
theorem test_readEvents :
    ∀ t ∈ [after (.readEvents 9) (svc.onMi fun m => { m with events := 0x0104 })],
      t.mi.answer.body = [0x04, 0x01] ∧ t.alertLow = false := by decide
theorem test_readConfig : (after (.readConfig 9) svc).mi.answer.body.length = 30 := by decide
theorem test_writeConfig_held : (after (.writeConfig 9 { rawDefault with kReq := 9 }) svc).mi.settings.kReq = 16 := by decide
theorem test_fencePort : ((after (.fencePort 9 1) svc).mi.answer.body) = [1, 1, 0] := by decide
theorem test_clearMap_refused : (after (.clearMap 9) svc).mi.answer.status = .final .refused := by decide
theorem test_malformedRecord : (after (.malformedRecord [4, 9]) svc).mi.answer.status = .final .invalid := by decide
theorem test_dvPrsnLow : (after .dvPrsnLow State.reset).dct.out = [.reset, .identify] := by decide
theorem test_dvPrsnHigh_resets : (after .dvPrsnHigh svc).dct.drive = .resetting := by decide
theorem test_attachAnswerTimeExpiry : (after .attachAnswerTimeExpiry (driveAt .attaching true none)).dct.retryTimer = some 1 := by decide
theorem test_attachRetryTimeExpiry : (after .attachRetryTimeExpiry (driveAt .absent true (some 1))).dct.drive = .attaching := by decide
theorem test_identifyAnswer_supported :
    ∀ t ∈ [after (.identifyAnswer 320 512 40) (driveAt .attaching true none)],
      t.dct.drive = .ready ∧ t.dct.depth = 32 ∧ t.oc.visible = 256 := by decide
theorem test_identifyAnswer_small : (after (.identifyAnswer 319 512 40) (driveAt .attaching true none)).ic.bridge = .halted := by decide
theorem test_reattachIdentifyAnswer : (after (.reattachIdentifyAnswer 1088 512 4) (resetting 1)).dct.depth = 4 := by decide
theorem test_reattachTimeExpiry : (after .reattachTimeExpiry (resetting 2)).dct.drive = .lost := by decide
theorem test_driveCompletion_error :
    ((after (.driveCompletion 0 .error 7) (withEntries [ent 0 .a .write] svc)).plu.get .a).outQueue =
      [.completion 0 .driveError 7] := by decide
theorem test_driveReadData :
    ((after (.driveReadData 0 0 [1]) (withEntries [ent 0 .a .read] svc)).plu.get .a).dataList = [.readData 0 0 0 [1]] := by decide
theorem test_abortAnswer :
    ((after (.abortAnswer 0 true) (withEntries [aborting (ent 0 .a .flush)] svc)).plu.get .a).outQueue =
      [.completion 0 .aborted 0] := by decide
theorem test_commandTimerExpiry : (after (.commandTimerExpiry 0) (withEntries [ent 0 .a .read] svc)).dct.out = [.abort 0] := by decide
theorem test_abortTimerExpiry : (after (.abortTimerExpiry 0) (withEntries [aborting (ent 0 .a .read)] svc)).dct.reattachNo = 1 := by decide
theorem test_confirmTimerExpiry_held :
    (after (.confirmTimerExpiry .a) (svc.onSup .a fun u => { u with state := .suspect, confirm := some 1500 })).port .a =
      .held := by decide
theorem test_parkTimerExpiry :
    ∀ t ∈ [after (.parkTimerExpiry .a) (svc.onSup .a fun u => { u with state := .parking, park := some 10 })],
      t.port .a = .fenced ∧ (t.tc.records.get .a).cause = some .parkTimeout := by decide
theorem test_startWindowExpiry : (after .startWindowExpiry { setPort .a .linked svc with startWindow := some 60 }).port .a = .fenced := by decide
theorem test_claimDeadlineExpiry :
    ((after (.claimDeadlineExpiry 4) claimed).plu.get .a).outQueue = [.answer 9 noFlags .timedOut (.claim 4 7)] := by decide
theorem test_drainTimerExpiry :
    (after (.drainTimerExpiry .a) (busyA.onTc fun t =>
      { t with records := t.records.set .a { t.records.a with stage := .drain, drain := some 5000 } })).dct.out =
      [.abort 0, .abort 2] := by decide
theorem test_arbiterDecision :
    ∀ t ∈ [after .arbiterDecision (queued .a [qrec .write 9] svc)], t.dct.out = [.command 0 .write (some (0, 1))] ∧
      (t.plu.get .a).dataList = [.transferReady 9 512] ∧ t.oc.extents.map (·.inflight) = [1, 0, 0, 0] := by decide
theorem test_shareWindowEnd : (after .shareWindowEnd (svc.onAu fun a => { a with w := 32, granted := ⟨20, 12⟩ })).au.w = 0 := by decide
theorem test_queueDepthTaken :
    (after (.queueDepthTaken .a) (withSettings (fun x => { x with depth := 8 }) svc)).au.depth = ⟨8, 16⟩ := by decide
theorem test_bridgeCommandIssue :
    (after .bridgeCommandIssue (svc.onDct fun d => { d with bridgeWait := some .imageRead })).dct.out =
      [.command 7 .read (some (1024, 17))] := by decide
theorem test_imageCycleBegin : (after .imageCycleBegin (svc.onIc fun i => { i with beginDue := true })).ic.generation = 4 := by decide
theorem test_quiesceMetCommit :
    (after (.quiesceMetCommit 0) (withStep (stepOf .disclaim (some none) [0] (some .a) (some 3) .quiesce) svc)).oc.emap = 8 := by decide
theorem test_waitingStepAdmitted :
    ((after .waitingStepAdmitted ((withStep (stepOf .release none [] (some .a) (some 3) .waiting) svc).onOc fun o =>
      { o with admitDue := true })).oc.steps.map (·.extents)) = [[0, 1]] := by decide
theorem test_ticketServed :
    ((after .ticketServed (handing .park (some .b))).plu.get .b).outQueue = [.handoverNotice .park .a 7 2 0 0 false] := by decide
theorem test_portClear :
    ((after (.portClear .a) ((recordAt .drain svc).onDct fun d => { d with clearReq := ⟨true, false⟩ })).tc.records.get .a).stage =
      .transfer := by decide
theorem test_queueEmptyReport :
    ((after (.queueEmptyReport .a) (svc.onTc fun t => { t with parks := ⟨some ⟨.queue, 5, none, false⟩, none⟩ })).tc.parks.get .a) =
      some ⟨.drive, 5, none, false⟩ := by decide

/-- R26, log 40: a drive reset frees the tag of a READ whose READ DATA is still listed; a COMPLETION that waits from before
keeps its own. -/
theorem test_driveReset_frees_tags :
    ∀ t ∈ [after (.abortTimerExpiry 0) mixed], t.tagInUse .a 0 = false ∧ t.tagInUse .a 2 = false ∧ t.tagInUse .a 40 = true ∧
      (t.plu.get .a).readDone.map (fun r => (r.tag, r.holdsTag)) = [(40, true), (41, false), (0, false)] := by decide

/-- R27: a READ takes its READ DATA beside that of an earlier READ of the same server tag. -/
theorem test_driveReadData_same_tag :
    ((after (.driveReadData 0 0 [1]) (plu .a (fun u => { u with dataList := [.readData 9 0 0 [8]] })
      (withEntries [ent 0 .a .read] svc))).plu.get .a).dataList = [.readData 9 0 0 [8], .readData 0 0 0 [1]] := by decide

/-- R181, R182: a record's bytes and an answer's bytes, written out. -/
theorem test_record_bytes :
    commandOfRecord [0x05, 9, 2] = .fencePort 9 2 ∧ commandOfRecord [0x02, 9] = .readEvents 9 ∧
      commandOfRecord [0x02, 9, 0] = .malformedRecord [0x02, 9, 0] ∧
      (after (.fencePort 9 1) svc).readRecord = [9, 0x05, 0x00, 0, 3, 0, 1, 1, 0] := by decide

/-- Log 32: no word spells a command. -/
theorem test_no_word : decodeTableWord 8 1 = none ∧ svc.withFetchWord 8 1 = svc := by decide

end Sys2Proof.Tests
end

section
/-! Proofs about the port links: the end of a check-error window (R10, R11, R12, R21). -/

namespace Sys2Proof.Machine

/-- An update of a port's link is known by what it makes of that port's link in this state. -/
theorem State.onPlu_congr {s : State} {p : Port} {f g : Plu → Plu} (h : f (s.plu.get p) = g (s.plu.get p)) :
    s.onPlu p f = s.onPlu p g := by
  simp only [State.onPlu, h]

/-! ### The count against the threshold -/

theorem Plu.excessive_eq_true_iff (u : Plu) : u.excessive = true ↔ u.threshold < u.checkErrors := by
  simp only [Plu.excessive, decide_eq_true_eq]

theorem Plu.excessive_eq_false_iff (u : Plu) : u.excessive = false ↔ u.checkErrors ≤ u.threshold := by
  simp only [Plu.excessive, decide_eq_false_iff_not, Nat.not_lt]

/-! ### What the end of a window does -/

/-- R12: a count that is not above the threshold clears DEGRADED. -/
theorem endWindow_of_le {p : Port} {s : State} (h : (s.plu.get p).checkErrors ≤ (s.plu.get p).threshold) :
    endWindow p s = s.onPlu p fun u =>
      { u with degraded := false, checkErrors := 0, threshold := s.cfg.threshold, action := s.cfg.action } := by
  have calm : (s.plu.get p).excessive = false := (Plu.excessive_eq_false_iff _).mpr h
  exact State.onPlu_congr (by simp only [calm, Bool.and_false])

/-- R12: a count above the threshold leaves DEGRADED as R11 set it. -/
theorem endWindow_of_lt {p : Port} {s : State} (h : (s.plu.get p).threshold < (s.plu.get p).checkErrors) :
    endWindow p s = s.onPlu p fun u =>
      { u with checkErrors := 0, threshold := s.cfg.threshold, action := s.cfg.action } := by
  have excessive : (s.plu.get p).excessive = true := (Plu.excessive_eq_true_iff _).mpr h
  exact State.onPlu_congr (by simp only [excessive, Bool.and_true])

/-- With nothing due, CHECK_ERROR_WINDOW_END does nothing but end the window. -/
theorem exec_checkErrorWindowEnd_of_quiet {s : State} (p : Port) (hq : Quiet s) :
    exec (.checkErrorWindowEnd p) s = .next (endWindow p s) := by
  have arm : exec (.checkErrorWindowEnd p) s = .next (endWindow p (settle s)) := rfl
  rw [arm, settle_of_quiet hq]

/-- Settles O12: the two cases of the count, above the threshold or not, decide what is left of DEGRADED. -/
theorem checkErrorWindowEnds : Obligations.CheckErrorWindowEnds := by
  intro p s hq
  rw [exec_checkErrorWindowEnd_of_quiet p hq]
  exact ⟨fun hle => congrArg _ (endWindow_of_le hle), fun hlt => congrArg _ (endWindow_of_lt hlt)⟩

end Sys2Proof.Machine
end

section
/-! Proofs about extent geometry: the span of a range and the blocks in each of its extents (R42). -/

namespace Sys2Proof.Machine

/-- R42: f and g are the extents that hold the first and the last block of a range, said by the ends of the two extents
and not by the two floors. -/
structure Range.Spans (k : Nat) (r : Range) : Prop where
  nonempty : 0 < r.count.toNat
  first_start : r.f * 2 ^ k ≤ r.lba.toNat
  first_end : r.lba.toNat < (r.f + 1) * 2 ^ k
  last_start : r.g * 2 ^ k < r.lba.toNat + r.count.toNat
  last_end : r.lba.toNat + r.count.toNat ≤ (r.g + 1) * 2 ^ k

/-- The two floors of R42 find these extents. -/
theorem rangeOf_spans (k : Nat) (lba : BitVec 48) {n : Word} (hn : n ≠ 0) : (rangeOf k lba n).Spans k := by
  have size : 0 < 2 ^ k := Nat.two_pow_pos k
  have count : 0 < n.toNat := Nat.pos_of_ne_zero fun h => hn (BitVec.eq_of_toNat_eq h)
  have lastStart : (lba.toNat + n.toNat - 1) / 2 ^ k * 2 ^ k ≤ lba.toNat + n.toNat - 1 := Nat.div_mul_le_self _ _
  have lastEnd : lba.toNat + n.toNat - 1 < ((lba.toNat + n.toNat - 1) / 2 ^ k + 1) * 2 ^ k :=
    Nat.lt_mul_of_div_lt (Nat.lt_succ_self _) size
  exact {
    nonempty := count
    first_start := Nat.div_mul_le_self _ _
    first_end := Nat.lt_mul_of_div_lt (Nat.lt_succ_self _) size
    last_start := Nat.lt_of_le_pred (Nat.add_pos_right _ count) lastStart
    last_end := Nat.le_of_pred_lt lastEnd }

/-- R40: the extents that exist are those that begin below V. -/
theorem lt_extentsOf_iff (v k x : Nat) : x < extentsOf v k ↔ x * 2 ^ k < v := by
  have size : 0 < 2 ^ k := Nat.two_pow_pos k
  rw [extentsOf, Nat.lt_iff_add_one_le, Nat.le_div_iff_mul_le size, Nat.add_one_mul]
  omega

/-! ### The extents of a span -/

theorem Range.Spans.first_le_last {k : Nat} {r : Range} (h : r.Spans k) : r.f ≤ r.g := by
  have blocks : r.f * 2 ^ k < (r.g + 1) * 2 ^ k :=
    calc r.f * 2 ^ k ≤ r.lba.toNat := h.first_start
      _ < r.lba.toNat + r.count.toNat := Nat.lt_add_of_pos_right h.nonempty
      _ ≤ (r.g + 1) * 2 ^ k := h.last_end
  exact Nat.le_of_lt_succ (Nat.lt_of_mul_lt_mul_right blocks)

theorem Range.Spans.last_lt_extentsOf {k v : Nat} {r : Range} (h : r.Spans k)
    (hv : r.lba.toNat + r.count.toNat ≤ v) : r.g < extentsOf v k :=
  (lt_extentsOf_iff v k r.g).mpr (Nat.lt_of_lt_of_le h.last_start hv)

/-- A span of more than one extent has all the blocks of its inner extents, and at least one block in each of its ends. -/
theorem Range.Spans.inner_blocks {k : Nat} {r : Range} (h : r.Spans k) (hlt : r.f < r.g) :
    (r.g - r.f - 1) * 2 ^ k + 2 ≤ r.count.toNat := by
  have firstEnd := h.first_end
  have lastStart := h.last_start
  have blocks : r.g * 2 ^ k = (r.g - r.f - 1) * 2 ^ k + (r.f + 1) * 2 ^ k := by
    rw [← Nat.add_mul]
    congr 1
    omega
  omega

theorem Range.Spans.extents_le {k : Nat} {r : Range} (h : r.Spans k) :
    r.g - r.f + 1 ≤ (r.count.toNat - 1) / 2 ^ k + 2 := by
  rcases Nat.eq_or_lt_of_le h.first_le_last with heq | hlt
  · rw [heq, Nat.sub_self]
    exact Nat.le_add_left_of_le (by decide)
  · have inner := h.inner_blocks hlt
    have bound : r.g - r.f - 1 ≤ (r.count.toNat - 1) / 2 ^ k :=
      (Nat.le_div_iff_mul_le (Nat.two_pow_pos k)).mpr (by omega)
    omega

theorem Range.Spans.extents_le_257 {k : Nat} {r : Range} (h : r.Spans k) (hk : 8 ≤ k) : r.g - r.f + 1 ≤ 257 := by
  have general := h.extents_le
  have count : r.count.toNat < 65536 := r.count.isLt
  have size : (r.count.toNat - 1) / 2 ^ k ≤ (r.count.toNat - 1) / 2 ^ 8 :=
    Nat.div_le_div_left (Nat.pow_le_pow_right Nat.two_pos hk) (Nat.two_pow_pos 8)
  omega

/-- A span of 257 extents has 255 inner ones, which a count of 16 bits can fill only at the least extent size. -/
theorem Range.Spans.of_extents_eq_257 {k : Nat} {r : Range} (h : r.Spans k) (hk : 8 ≤ k)
    (hlen : r.g - r.f + 1 = 257) : k = 8 ∧ 65282 ≤ r.count.toNat := by
  have count : r.count.toNat < 65536 := r.count.isLt
  have inner : 255 * 2 ^ k + 2 ≤ r.count.toNat := by
    have blocks := h.inner_blocks (by omega)
    rwa [show r.g - r.f - 1 = 255 by omega] at blocks
  have least : k = 8 := by
    rcases Nat.eq_or_lt_of_le hk with heq | hlt
    · exact heq.symm
    · have size : 2 ^ 9 ≤ 2 ^ k := Nat.pow_le_pow_right Nat.two_pos hlt
      omega
  subst least
  exact ⟨rfl, by omega⟩

/-! ### The blocks of the range in each extent -/

theorem Range.Spans.blocksIn_of_eq {k : Nat} {r : Range} (h : r.Spans k) (heq : r.f = r.g) :
    blocksIn k r r.f = r.count.toNat := by
  have lastEnd := h.last_end
  rw [← heq] at lastEnd
  rw [blocksIn, Nat.min_eq_right lastEnd, Nat.max_eq_right h.first_start, Nat.add_sub_cancel_left]

/-- An extent of the span before the last ends within the range. -/
theorem Range.Spans.end_le_of_lt_last {k x : Nat} {r : Range} (h : r.Spans k) (hx : x < r.g) :
    (x + 1) * 2 ^ k ≤ r.lba.toNat + r.count.toNat :=
  Nat.le_trans (Nat.mul_le_mul_right _ hx) (Nat.le_of_lt h.last_start)

/-- An extent of the span after the first begins within the range. -/
theorem Range.Spans.le_start_of_first_lt {k x : Nat} {r : Range} (h : r.Spans k) (hx : r.f < x) :
    r.lba.toNat ≤ x * 2 ^ k :=
  Nat.le_trans (Nat.le_of_lt h.first_end) (Nat.mul_le_mul_right _ hx)

theorem Range.Spans.blocksIn_first {k : Nat} {r : Range} (h : r.Spans k) (hlt : r.f < r.g) :
    blocksIn k r r.f = (r.f + 1) * 2 ^ k - r.lba.toNat := by
  rw [blocksIn, Nat.min_eq_left (h.end_le_of_lt_last hlt), Nat.max_eq_right h.first_start]

theorem Range.Spans.blocksIn_last {k : Nat} {r : Range} (h : r.Spans k) (hlt : r.f < r.g) :
    blocksIn k r r.g = r.lba.toNat + r.count.toNat - r.g * 2 ^ k := by
  rw [blocksIn, Nat.min_eq_right h.last_end, Nat.max_eq_left (h.le_start_of_first_lt hlt)]

theorem Range.Spans.blocksIn_inner {k x : Nat} {r : Range} (h : r.Spans k) (hf : r.f < x) (hg : x < r.g) :
    blocksIn k r x = 2 ^ k := by
  rw [blocksIn, Nat.min_eq_left (h.end_le_of_lt_last hg), Nat.max_eq_left (h.le_start_of_first_lt hf), Nat.add_one_mul,
    Nat.add_sub_cancel_left]

/-- The blocks of a range in the first `m` extents from one that begins at or below it: those of the range that lie below
the end of these extents. -/
theorem sum_blocksIn {k x : Nat} {r : Range} (hx : x * 2 ^ k ≤ r.lba.toNat) (m : Nat) :
    ((List.range m).map fun i => blocksIn k r (x + i)).sum =
      min ((x + m) * 2 ^ k) (r.lba.toNat + r.count.toNat) - r.lba.toNat := by
  induction m with
  | zero =>
    have below : min (x * 2 ^ k) (r.lba.toNat + r.count.toNat) ≤ r.lba.toNat := Nat.le_trans (Nat.min_le_left _ _) hx
    simp only [List.range_zero, List.map_nil, List.sum_nil, Nat.add_zero, Nat.sub_eq_zero_of_le below]
  | succ m ih =>
    have grows : (x + m) * 2 ^ k ≤ (x + m + 1) * 2 ^ k := Nat.mul_le_mul_right _ (Nat.le_succ _)
    rw [List.range_succ, List.map_append, List.sum_append, ih, List.map_singleton, List.sum_singleton, blocksIn, ← Nat.add_assoc x m 1]
    omega

theorem Range.Spans.sum_blocksIn_span {k : Nat} {r : Range} (h : r.Spans k) :
    ((List.range (r.g - r.f + 1)).map fun i => blocksIn k r (r.f + i)).sum = r.count.toNat := by
  have last : r.f + (r.g - r.f + 1) = r.g + 1 := by
    have ordered := h.first_le_last
    omega
  rw [sum_blocksIn h.first_start, last, Nat.min_eq_right h.last_end, Nat.add_sub_cancel_left]

/-- Settles O52: the two floors give extents that hold the first and the last block of the range (`rangeOf_spans`), and
each clause is a fact about such extents. -/
theorem spanExact : Obligations.SpanExact := by
  rintro v k lba n r hn hv rfl
  have h : (rangeOf k lba n).Spans k := rangeOf_spans k lba hn
  have exist : (rangeOf k lba n).g < extentsOf v k := h.last_lt_extentsOf hv
  exact ⟨rfl, rfl, h.first_le_last, Nat.le_sub_one_of_lt exist, exist, h.blocksIn_of_eq,
    fun hlt => ⟨h.blocksIn_first hlt, h.blocksIn_last hlt, fun _ => h.blocksIn_inner⟩,
    h.sum_blocksIn_span, h.extents_le, fun hk => ⟨h.extents_le_257 hk, h.of_extents_eq_257 hk⟩⟩

end Sys2Proof.Machine
end

section
/-! What one step keeps, said once: the relation `Keeps` of a state and a later one, and the updates of one block that meet
it. Every invariant of chapter "What every step keeps" is a field of it. -/

namespace Sys2Proof.Machine

/- Declarations are elaborated one after another, which keeps the check within its memory. -/
set_option Elab.async false

/-- What the rules promise between a state and one that a command makes of it (but a full reset). Each invariant is passed
on by itself; the map epoch is spoken of from a started bridge on, and from a STARTING one too when `tidy` holds, which is
where the condition that STARTING is clean is used. -/
structure Keeps (tidy : Prop) (s t : State) : Prop where
  pending : t.pending = s.pending
  queues : QueuesBounded s → QueuesBounded t
  intents : IntentsBounded s → IntentsBounded t
  grants : GrantsCounted s → GrantsCounted t
  admission : AdmissionBounded s → AdmissionBounded t
  lost : LostIsHalted s → LostIsHalted t
  tags : TagsSound s → TagsSound t
  positions : PositionsAgree s → PositionsAgree t
  started : s.ic.bridge ≠ .starting → t.ic.bridge ≠ .starting
  epochs : (s.ic.bridge = .starting → tidy) → EpochsBounded s → StartingClean s →
    EpochsBounded t ∧ StartingClean t ∧ s.oc.emap ≤ t.oc.emap

variable {tidy : Prop} {s t u : State} {p : Port}

theorem Keeps.refl : Keeps tidy s s where
  pending := rfl
  queues := id
  intents := id
  grants := id
  admission := id
  lost := id
  tags := id
  positions := id
  started := id
  epochs _ he hc := ⟨he, hc, BitVec.le_refl _⟩

theorem Keeps.trans (h : Keeps tidy s t) (k : Keeps tidy t u) : Keeps tidy s u where
  pending := k.pending.trans h.pending
  queues := k.queues ∘ h.queues
  intents := k.intents ∘ h.intents
  grants := k.grants ∘ h.grants
  admission := k.admission ∘ h.admission
  lost := k.lost ∘ h.lost
  tags := k.tags ∘ h.tags
  positions := k.positions ∘ h.positions
  started := k.started ∘ h.started
  epochs htidy he hc := by
    obtain ⟨he', hc', hle⟩ := h.epochs htidy he hc
    obtain ⟨he'', hc'', hle'⟩ := k.epochs (fun ht => htidy (Classical.byContradiction fun hs => h.started hs ht)) he' hc'
    exact ⟨he'', hc'', BitVec.le_trans hle hle'⟩

/-- The outermost operation of a chain, taken off. -/
theorem Keeps.after (k : Keeps tidy t u) (h : Keeps tidy s t) : Keeps tidy s u := h.trans k

theorem Keeps.ite {c : Prop} [Decidable c] (h : c → Keeps tidy s t) (k : ¬c → Keeps tidy s u) :
    Keeps tidy s (if c then t else u) := by
  split
  · exact h ‹_›
  · exact k ‹_›

/-- A fold keeps what each of its steps keeps. -/
theorem Keeps.foldl {α : Type} {f : State → α → State} (hf : ∀ s a, Keeps tidy s (f s a)) (l : List α) :
    Keeps tidy s (l.foldl f s) :=
  foldl_keeps (Keeps tidy s) f (fun t a h => h.trans (hf t a)) l s Keeps.refl

/-- What needs a started bridge is kept also where a STARTING bridge that is clean cannot reach it. -/
theorem Keeps.of_started (h : Keeps False s t) (hs : StartingClean s → s.ic.bridge ≠ .starting) : Keeps tidy s t :=
  { h with epochs := fun _ he hc => h.epochs (fun hb => hs hc hb) he hc }

/-! ### One block changed -/

/-- A change of one link that adds nothing to its queue beyond 192 messages and does not move its position. -/
theorem onPlu_keeps {f : Plu → Plu} (hq : (s.plu.get p).outQueue.length ≤ 192 → (f (s.plu.get p)).outQueue.length ≤ 192)
    (hp : (f (s.plu.get p)).localPos = (s.plu.get p).localPos) : Keeps tidy s (s.onPlu p f) where
  pending := rfl
  queues h q := by
    rw [State.onPlu_plu]
    by_cases hqp : q = p
    · subst hqp
      rw [PerPort.get_set_self]
      exact hq (h q)
    · rw [PerPort.get_set_of_ne _ _ hqp]
      exact h q
  intents := id
  grants := id
  admission := id
  lost := id
  tags := id
  positions := by
    rintro ⟨h, h8⟩
    cases p with
    | a => exact ⟨hp.trans h, Nat.lt_of_le_of_lt (Nat.le_of_eq hp) h8⟩
    | b => exact ⟨h.trans hp.symm, h8⟩
  started := id
  epochs _ he hc := ⟨he, hc, BitVec.le_refl _⟩

/-- A change of one link that leaves its queue and its position alone. -/
theorem onPlu_keeps_of_eq {f : Plu → Plu} (hq : (f (s.plu.get p)).outQueue = (s.plu.get p).outQueue := by rfl)
    (hp : (f (s.plu.get p)).localPos = (s.plu.get p).localPos := by rfl) : Keeps tidy s (s.onPlu p f) :=
  onPlu_keeps (fun h => hq ▸ h) hp

/-- The supervisors, the start window, the Management Interface and the count of free values are in no invariant. -/
theorem aside_keeps (sup : PerPort Supervisor) (window : Timer) (mi : Mi) (fillNext : Nat) :
    Keeps tidy s { s with sup := sup, startWindow := window, mi := mi, fillNext := fillNext } where
  pending := rfl
  queues := id
  intents := id
  grants := id
  admission := id
  lost := id
  tags := id
  positions := id
  started := id
  epochs _ he hc := ⟨he, hc, BitVec.le_refl _⟩

theorem onSup_keeps {f : Supervisor → Supervisor} : Keeps tidy s (s.onSup p f) := aside_keeps _ _ _ _

theorem onMi_keeps {f : Mi → Mi} : Keeps tidy s (s.onMi f) := aside_keeps _ _ _ _

/-- R46, R51: the map epoch does not fall, and no change epoch passes it. -/
structure Oc.Follows (o o' : Oc) : Prop where
  le : o.emap ≤ o'.emap
  bounded : (∀ e ∈ o.extents, e.epoch ≤ o.emap) → ∀ e ∈ o'.extents, e.epoch ≤ o'.emap

/-- Nothing has begun: the map epoch is the same, and there is no transfer step or claim where there was none. -/
structure Oc.Rests (o o' : Oc) : Prop where
  emap : o'.emap = o.emap
  steps : o.steps = [] → o'.steps = []
  claims : o.claims = [] → o'.claims = []

theorem Oc.Rests.follows {o o' : Oc} (h : o.Rests o')
    (hb : (∀ e ∈ o.extents, e.epoch ≤ o.emap) → ∀ e ∈ o'.extents, e.epoch ≤ o.emap) : o.Follows o' :=
  ⟨h.emap ▸ BitVec.le_refl _, h.emap ▸ hb⟩

theorem onOc_keeps_started {f : Oc → Oc} (h : s.oc.Follows (f s.oc)) : Keeps False s (s.onOc f) where
  pending := rfl
  queues := id
  intents := id
  grants := id
  admission := id
  lost := id
  tags := id
  positions := id
  started := id
  epochs hb he _ := ⟨h.bounded he, fun hs => (hb hs).elim, h.le⟩

theorem onOc_keeps {f : Oc → Oc} (h : s.oc.Rests (f s.oc))
    (hb : (∀ e ∈ s.oc.extents, e.epoch ≤ s.oc.emap) → ∀ e ∈ (f s.oc).extents, e.epoch ≤ s.oc.emap) :
    Keeps tidy s (s.onOc f) :=
  { onOc_keeps_started (h.follows hb) with
    epochs := fun _ he hc =>
      ⟨(h.follows hb).bounded he,
        fun hs => by
          obtain ⟨h0, hsteps, hclaims, htc⟩ := hc hs
          exact ⟨h.emap.trans h0, h.steps hsteps, h.claims hclaims, htc⟩,
        (h.follows hb).le⟩ }

/-- A change of the Admission Unit. -/
theorem onAu_keeps {f : Au → Au} (hg : GrantsCounted s → GrantsCounted (s.onAu f))
    (ha : AdmissionBounded s → AdmissionBounded (s.onAu f)) : Keeps tidy s (s.onAu f) where
  pending := rfl
  queues := id
  intents := id
  grants := hg
  admission := ha
  lost := id
  tags := id
  positions := id
  started := id
  epochs _ he hc := ⟨he, hc, BitVec.le_refl _⟩

/-- A change of the Drive Command Table. -/
theorem onDct_keeps {f : Dct → Dct} (hl : LostIsHalted s → LostIsHalted (s.onDct f))
    (ht : TagsSound s → TagsSound (s.onDct f)) : Keeps tidy s (s.onDct f) where
  pending := rfl
  queues := id
  intents := id
  grants := id
  admission := id
  lost := hl
  tags := ht
  positions := id
  started := id
  epochs _ he hc := ⟨he, hc, BitVec.le_refl _⟩

/-- What an entry is known by in the table: its drive tag and its origin. -/
def Entry.key (e : Entry) : Nat × Origin := (e.tag, e.origin)

/-- R103: the tags are sound, said of the keys of the entries. -/
theorem tagsSound_iff_keys (s : State) :
    TagsSound s ↔
      (s.dct.drive ≠ .ready → s.dct.entries = []) ∧ (s.dct.drive = .ready → 1 ≤ s.dct.depth) ∧
        ((s.dct.entries.map Entry.key).map Prod.fst).Nodup ∧
        (∀ k ∈ s.dct.entries.map Entry.key, k.1 < s.dct.depth) ∧
        (2 ≤ s.dct.depth → ∀ k ∈ s.dct.entries.map Entry.key, (k.1 = s.dct.depth - 1 ↔ k.2 = .bridge)) := by
  simp only [TagsSound, List.map_map, List.forall_mem_map]
  rfl

/-- A drive command table with no entry that was not there, at a drive in the same state. -/
structure Dct.Within (d d' : Dct) : Prop where
  drive : d'.drive = d.drive := by rfl
  depth : d'.depth = d.depth := by rfl
  keys : (d'.entries.map Entry.key).Sublist (d.entries.map Entry.key)

theorem Dct.Within.empty {d d' : Dct} (h : d.Within d') (hd : d.entries = []) : d'.entries = [] := by
  have keys := h.keys
  rw [hd] at keys
  simpa using keys

theorem onDct_keeps_of_within {f : Dct → Dct} (h : s.dct.Within (f s.dct)) : Keeps tidy s (s.onDct f) := by
  have hdrive : (s.onDct f).dct.drive = s.dct.drive := h.drive
  have hdepth : (s.onDct f).dct.depth = s.dct.depth := h.depth
  apply onDct_keeps
  · rintro ⟨hiff, hempty⟩
    exact ⟨hdrive ▸ hiff, fun hd => h.empty (hempty (hdrive ▸ hd))⟩
  · simp only [tagsSound_iff_keys, hdrive, hdepth]
    rintro ⟨hempty, hready, hnodup, hlt, hbridge⟩
    exact ⟨fun hd => h.empty (hempty hd), hready, hnodup.sublist (h.keys.map _), fun k hk => hlt k (h.keys.subset hk),
      fun h2 k hk => hbridge h2 k (h.keys.subset hk)⟩

/-- A change of the Drive Command Table that leaves drive, depth and entries alone. -/
theorem onDct_keeps_of_eq {f : Dct → Dct} (hdrive : (f s.dct).drive = s.dct.drive := by rfl)
    (hdepth : (f s.dct).depth = s.dct.depth := by rfl) (he : (f s.dct).entries = s.dct.entries := by rfl) :
    Keeps tidy s (s.onDct f) :=
  onDct_keeps_of_within ⟨hdrive, hdepth, he ▸ List.Sublist.refl _⟩

/-- Entries changed one by one, each keeping its tag and its origin. -/
theorem keys_map_sublist {es : List Entry} {g : Entry → Entry} (h : ∀ e, (g e).key = e.key) :
    ((es.map g).map Entry.key).Sublist (es.map Entry.key) := by
  have same : Entry.key ∘ g = Entry.key := funext h
  have keys : (es.map g).map Entry.key = es.map Entry.key := by rw [List.map_map, same]
  exact keys ▸ List.Sublist.refl _

/-- A change of the Takeover Controller that needs a started bridge. -/
theorem onTc_keeps_started {f : Tc → Tc} (hi : s.tc.intents.length ≤ 2 → (f s.tc).intents.length ≤ 2) :
    Keeps False s (s.onTc f) where
  pending := rfl
  queues := id
  intents := hi
  grants := id
  admission := id
  lost := id
  tags := id
  positions := id
  started := id
  epochs hb he _ := ⟨he, fun hs => (hb hs).elim, BitVec.le_refl _⟩

/-- R143, R162: a port has no drain and no park in progress. -/
def Tc.restsAt (t : Tc) (p : Port) : Prop := (t.records.get p).stage ≠ .drain ∧ t.parks.get p = none

theorem onTc_keeps {f : Tc → Tc} (hi : s.tc.intents.length ≤ 2 → (f s.tc).intents.length ≤ 2)
    (hr : ∀ q, s.tc.restsAt q → (f s.tc).restsAt q) : Keeps tidy s (s.onTc f) :=
  { onTc_keeps_started hi with
    epochs := fun _ he hc =>
      ⟨he,
        fun hs => by
          obtain ⟨h0, hsteps, hclaims, htc⟩ := hc hs
          exact ⟨h0, hsteps, hclaims, fun q => hr q (htc q)⟩,
        BitVec.le_refl _⟩ }

/-- A change of the Image Controller that leaves the bridge state alone. -/
theorem onIc_keeps {f : Ic → Ic} (hb : (f s.ic).bridge = s.ic.bridge := by rfl) : Keeps tidy s (s.onIc f) where
  pending := rfl
  queues := id
  intents := id
  grants := id
  admission h q := by
    obtain ⟨hlen, hempty⟩ := h q
    exact ⟨hlen, fun hs => hempty (hb ▸ hs)⟩
  lost := by
    rintro ⟨hiff, hempty⟩
    exact ⟨by rwa [State.onIc_ic, hb], hempty⟩
  tags := id
  positions := id
  started hs := by rwa [State.onIc_ic, hb]
  epochs _ he hc := ⟨he, fun hs => hc (hb ▸ hs), BitVec.le_refl _⟩

end Sys2Proof.Machine
end

section
/-! What the named operations of every block keep, in the order of the model's files. -/

namespace Sys2Proof.Machine

/- Declarations are elaborated one after another, which keeps the check within its memory. -/
set_option Elab.async false

variable {tidy : Prop} {s : State} {p : Port}

/-! ### Messages, port states and answer records -/

theorem handOver_keeps {m : OutMsg} : Keeps tidy s (handOver p m s) :=
  onPlu_keeps (Plu.handOver_bounded m) (by unfold Plu.handOver; split <;> rfl)

theorem answer_keeps {ref : Word} {fl : MsgFlags} {r : AnsResult} {b : AnswerBody} :
    Keeps tidy s (answer p ref fl r b s) := handOver_keeps

theorem complete_keeps {tag : Word} {st : CompStatus} : Keeps tidy s (complete p tag st s) := handOver_keeps

theorem pushData_keeps {m : DataMsg} : Keeps tidy s (pushData p m s) := onPlu_keeps_of_eq

theorem damage_keeps {n : Nat} : Keeps tidy s (damage p n s) := onPlu_keeps_of_eq

theorem sendDrive_keeps {ms : List DriveMsg} : Keeps tidy s (sendDrive ms s) := onDct_keeps_of_eq

theorem raise_keeps {e : Event} : Keeps tidy s (raise e s) := onMi_keeps

theorem raiseIf_keeps {c : Bool} {e : Event} : Keeps tidy s (raiseIf c e s) :=
  .ite (fun _ => raise_keeps) fun _ => .refl

theorem setPort_keeps {st : PortState} : Keeps tidy s (setPort p st s) := onSup_keeps

theorem suspect_keeps {c : Cause} : Keeps tidy s (suspect p c s) := raise_keeps.after onSup_keeps

theorem finish_keeps {seq kind : Byte} {r : AnsResult} {fl : MiFlags} {b : List Byte} :
    Keeps tidy s (finish seq kind r fl b s) := onMi_keeps

theorem finishPending_keeps {r : AnsResult} {fl : MiFlags} {b : List Byte} : Keeps tidy s (finishPending r fl b s) :=
  finish_keeps

theorem beginRequest_keeps {seq kind : Byte} : Keeps tidy s (beginRequest seq kind s) := onMi_keeps

/-- R51: the map epoch rises. -/
theorem setEpoch_keeps {v : Epoch} (h : s.oc.emap ≤ v) : Keeps False s (setEpoch v s) :=
  raiseIf_keeps.after (onOc_keeps_started ⟨h, fun hb e he => BitVec.le_trans (hb e he) h⟩)

/-! ### The extent table -/

/-- Entries changed one by one, no change epoch passing the map epoch. -/
theorem mapExtents_bounded {pick : Nat → Bool} {g : Extent → Extent} {o : Oc} {m : Epoch}
    (hg : ∀ e, e.epoch ≤ m → (g e).epoch ≤ m) (hb : ∀ e ∈ o.extents, e.epoch ≤ m) :
    ∀ e ∈ (mapExtents pick g o).extents, e.epoch ≤ m := by
  simp only [mapExtents, List.mem_mapIdx, forall_exists_index]
  rintro _ x hx rfl
  have old := hb _ (List.getElem_mem hx)
  split
  · exact hg _ old
  · exact old

theorem mapExtents_keeps {pick : Nat → Bool} {g : Extent → Extent} (hg : ∀ e, (g e).epoch = e.epoch := by intro; rfl) :
    Keeps tidy s (s.onOc (mapExtents pick g)) :=
  onOc_keeps ⟨rfl, id, id⟩ (mapExtents_bounded fun e h => hg e ▸ h)

theorem buildTable_keeps {kReq : Nat} : Keeps tidy s (buildTable kReq s.oc.emap s) := by
  refine raiseIf_keeps.after (onOc_keeps ⟨rfl, id, id⟩ fun _ e he => ?_)
  simp only [freshTable, List.mem_replicate] at he
  rw [he.2]
  exact BitVec.le_refl _

theorem respanQueues_keeps : Keeps tidy s (respanQueues s) := by
  refine onAu_keeps id fun h p => ?_
  obtain ⟨hlen, hempty⟩ := h p
  cases p with
  | a => exact ⟨by simpa [PerPort.get] using hlen, fun hs => by simpa [PerPort.get] using hempty hs⟩
  | b => exact ⟨by simpa [PerPort.get] using hlen, fun hs => by simpa [PerPort.get] using hempty hs⟩

theorem rebuild_keeps {kReq : Nat} : Keeps tidy s (rebuild kReq s) := respanQueues_keeps.after buildTable_keeps

/-! ### Tickets and the image cycle -/

theorem takeTicket_keeps {x : Taker} : Keeps tidy s (takeTicket x s) :=
  onIc_keeps (by
    unfold Ic.takeTicket
    split
    · rfl
    · split <;> rfl)

theorem beginCycle_keeps : Keeps tidy s (beginCycle s) := .after onDct_keeps_of_eq onIc_keeps

theorem cycleSucceeds_keeps : Keeps tidy s (cycleSucceeds s) := onIc_keeps

theorem attemptFails_keeps : Keeps tidy s (attemptFails s) :=
  .ite (fun _ => .after onDct_keeps_of_eq onIc_keeps) fun _ => raise_keeps.after onIc_keeps

theorem writeSucceeds_keeps : Keeps tidy s (writeSucceeds s) := .after onDct_keeps_of_eq onIc_keeps

theorem abandonCycle_keeps : Keeps tidy s (abandonCycle s) := .after onDct_keeps_of_eq onIc_keeps

/-! ### Transfer records -/

/-- A change of the Ownership Controller that leaves the map epoch and the extent table alone. -/
theorem onOc_keeps_of_table {f : Oc → Oc} (h : s.oc.Rests (f s.oc)) (he : (f s.oc).extents = s.oc.extents := by rfl) :
    Keeps tidy s (s.onOc f) := onOc_keeps h fun hb => he ▸ hb

theorem startStep_keeps {kind : StepKind} {dest : Option Port} {xs : List Nat} {port : Option Port} {ref : Option Word} :
    Keeps False s (startStep kind dest xs port ref s) :=
  onOc_keeps_started ⟨BitVec.le_refl _, mapExtents_bounded fun _ h => h⟩

theorem changeStep_keeps {id : Nat} {g : TransferStep → TransferStep} : Keeps tidy s (changeStep id g s) :=
  onOc_keeps_of_table ⟨rfl, fun h => by simp [h], fun h => h⟩

theorem endStep_keeps {x : TransferStep} : Keeps tidy s (endStep x s) :=
  onOc_keeps ⟨rfl, fun h => by simp [h], fun h => h⟩ (mapExtents_bounded fun _ h => h)

/-! ### Claims -/

theorem changeClaim_keeps {id : Byte} {g : Claim → Claim} : Keeps tidy s (changeClaim id g s) :=
  onOc_keeps_of_table ⟨rfl, fun h => h, fun h => by simp [h]⟩

theorem closeClaim_keeps {id : Byte} : Keeps tidy s (closeClaim id s) := by
  refine onOc_keeps ⟨rfl, fun h => h, fun h => by simp [h]⟩ fun hb => ?_
  simp only [List.forall_mem_map]
  intro e he
  split <;> exact hb e he

theorem endClaim_keeps {c : Claim} {r : AnsResult} {fl : MsgFlags} : Keeps tidy s (endClaim c r fl s) :=
  answer_keeps.after closeClaim_keeps

theorem askHolder_keeps {c : Claim} : Keeps tidy s (askHolder c s) := handOver_keeps.after changeClaim_keeps

theorem transferClaim_keeps {c : Claim} {xs : List Nat} : Keeps False s (transferClaim c xs s) :=
  startStep_keeps.after changeClaim_keeps

theorem settleClaim_keeps {c : Claim} : Keeps False s (settleClaim c s) :=
  .ite (fun _ => askHolder_keeps) fun _ =>
    .ite (fun _ => .ite (fun _ => raise_keeps.after endClaim_keeps) fun _ => transferClaim_keeps) fun _ => endClaim_keeps

theorem settleIfClear_keeps {c : Claim} : Keeps False s (settleIfClear s c) :=
  .ite (fun _ => settleClaim_keeps) fun _ => .refl

theorem settleOwed_keeps : Keeps False s (settleOwed s) := .foldl (fun _ _ => settleIfClear_keeps) _

theorem oweClaims_keeps : Keeps tidy s (oweClaims p s) :=
  onOc_keeps_of_table ⟨rfl, fun h => h, fun h => by simp [h]⟩

theorem holderLeaves_keeps : Keeps tidy s (holderLeaves p s) :=
  onOc_keeps_of_table ⟨rfl, fun h => h, fun h => by simp [h]⟩

theorem claimantFenced_keeps : Keeps tidy s (claimantFenced p s) := by
  unfold claimantFenced
  split
  · exact closeClaim_keeps
  · exact .refl

theorem claimantParks_keeps : Keeps tidy s (claimantParks p s) := by
  unfold claimantParks
  split
  · exact endClaim_keeps
  · exact .refl

theorem refuseAtHalt_keeps {c : Claim} : Keeps tidy s (refuseAtHalt s c) :=
  .ite (fun _ => .refl) fun _ => endClaim_keeps

/-! ### Whole-port steps -/

/-- A change of the takeover records that leaves every stage and the park records alone. -/
theorem onTc_keeps_of_stage {f : Tc → Tc} (hi : (f s.tc).intents = s.tc.intents := by rfl)
    (hs : ∀ q, ((f s.tc).records.get q).stage = (s.tc.records.get q).stage) (hp : (f s.tc).parks = s.tc.parks := by rfl) :
    Keeps tidy s (s.onTc f) :=
  onTc_keeps (fun h => hi ▸ h) fun q ⟨hstage, hpark⟩ => ⟨hs q ▸ hstage, hp ▸ hpark⟩

theorem recordDest_keeps {id : Nat} {dest : Option Port} : Keeps tidy s (recordDest id dest s) := by
  refine onTc_keeps_of_stage (hs := fun q => ?_)
  cases q <;> (simp only [PerPort.get]; split <;> rfl)

theorem recordPersist_keeps {id : Nat} : Keeps tidy s (recordPersist id s) := by
  refine onTc_keeps (fun h => h) fun q ⟨hstage, hpark⟩ => ?_
  cases q <;>
  · simp only [Tc.restsAt, PerPort.get] at hstage hpark ⊢
    refine ⟨?_, by simp [hpark]⟩
    split
    · simp
    · exact hstage

theorem enterPersist_keeps {id : Nat} : Keeps tidy s (enterPersist id s) :=
  takeTicket_keeps.after (recordPersist_keeps.after changeStep_keeps)

theorem admitStep_keeps {x : TransferStep} : Keeps tidy s (admitStep x s) :=
  .ite (fun _ => enterPersist_keeps.after (changeStep_keeps.after recordDest_keeps)) fun _ =>
    .after mapExtents_keeps (changeStep_keeps.after recordDest_keeps)

theorem admitIfFree_keeps {x : TransferStep} : Keeps tidy s (admitIfFree s x) :=
  .ite (fun _ => admitStep_keeps) fun _ => .refl

theorem admitWaiting_keeps : Keeps tidy s (admitWaiting s) :=
  (Keeps.foldl (fun _ _ => admitIfFree_keeps) _).after (onOc_keeps_of_table ⟨rfl, id, id⟩)

theorem requestStep_keeps {kind : StepKind} {port : Option Port} {ref : Option Word} :
    Keeps False s (requestStep kind port ref s) :=
  admitIfFree_keeps.after (onOc_keeps_started ⟨BitVec.le_refl _, fun h => h⟩)

theorem commitTable_follows {x : TransferStep} {o : Oc} : o.Follows (commitTable x o) := by
  have committed : (∀ e ∈ o.extents, e.epoch ≤ o.emap) →
      ∀ e ∈ (mapExtents (fun i => x.extents.contains i)
        (fun e => { e with owner := x.dest.join, epoch := o.emap }) o).extents, e.epoch ≤ o.emap :=
    mapExtents_bounded fun _ _ => BitVec.le_refl _
  unfold commitTable
  dsimp only
  split
  · exact ⟨BitVec.le_refl _, fun hb => List.forall_mem_map.mpr (committed hb)⟩
  · exact ⟨BitVec.le_refl _, committed⟩

/-- R51: a map epoch that is not saturated rises by one. -/
theorem le_succ_of_not_saturated (h : ¬ s.saturated = true) : s.oc.emap ≤ s.oc.emap + 1 := by
  simp only [State.saturated, beq_iff_eq] at h
  have below : s.oc.emap ≠ 4294967295#32 := h
  bv_omega

theorem commitStep_keeps {x : TransferStep} : Keeps False s (commitStep x s) :=
  enterPersist_keeps.after ((onOc_keeps_started commitTable_follows).after
    (.ite (fun _ => raise_keeps) fun h => setEpoch_keeps (le_succ_of_not_saturated h)))

end Sys2Proof.Machine
end

section
/-! What fences, judgements and the ends of transfer steps and tickets keep. -/

namespace Sys2Proof.Machine

/- Declarations are elaborated one after another, which keeps the check within its memory. -/
set_option Elab.async false

variable {tidy : Prop} {s : State} {p : Port}

/-! ### Ports of a pair -/

theorem PerPort.get_set {α : Type} (x : PerPort α) (p q : Port) (v : α) :
    (x.set p v).get q = if q = p then v else x.get q := by
  split
  · next h => rw [h, PerPort.get_set_self]
  · next h => exact PerPort.get_set_of_ne x v h

/-! ### Queues -/

theorem clearQueue_keeps : Keeps tidy s (clearQueue p s) := by
  refine onAu_keeps id fun h q => ?_
  simp only [State.onAu_au, PerPort.get_set]
  split
  · exact ⟨Nat.zero_le _, fun _ => rfl⟩
  · exact h q

theorem answerRecords_keeps {st : CompStatus} {qs : List QueueRecord} : Keeps tidy s (answerRecords p st qs s) :=
  .foldl (fun _ _ => complete_keeps) _

theorem flushQueue_keeps : Keeps tidy s (flushQueue p s) :=
  .ite (fun _ => answerRecords_keeps.after clearQueue_keeps) fun _ => clearQueue_keeps

/-! ### Entries at the drive -/

theorem mapEntries_keeps {f : Dct → Dct} {g : Entry → Entry} (he : (f s.dct).entries = s.dct.entries.map g)
    (hg : ∀ e, (g e).key = e.key) (hdrive : (f s.dct).drive = s.dct.drive := by rfl)
    (hdepth : (f s.dct).depth = s.dct.depth := by rfl) : Keeps tidy s (s.onDct f) :=
  onDct_keeps_of_within ⟨hdrive, hdepth, he ▸ keys_map_sublist hg⟩

theorem watchEntries_keeps : Keeps tidy s (watchEntries p s) :=
  mapEntries_keeps rfl fun e => by split <;> rfl

theorem requestAborts_keeps : Keeps tidy s (requestAborts p s) :=
  mapEntries_keeps rfl fun e => by split <;> rfl

/-! ### The Takeover Controller -/

/-- A record of a port replaced by one that is not in DRAIN, the park records left alone. -/
theorem setRecord_keeps {f : Tc → Tc} {r : Takeover} (hr : (f s.tc).records = s.tc.records.set p r) (hs : r.stage ≠ .drain)
    (hi : (f s.tc).intents = s.tc.intents := by rfl) (hp : (f s.tc).parks = s.tc.parks := by rfl) :
    Keeps tidy s (s.onTc f) := by
  refine onTc_keeps (fun h => hi ▸ h) fun q ⟨hstage, hpark⟩ => ⟨?_, hp ▸ hpark⟩
  rw [hr, PerPort.get_set]
  split
  · exact hs
  · exact hstage

@[simp] theorem moveClosing_records (t : Tc) : (t.moveClosing p).records = t.records := by
  unfold Tc.moveClosing; split <;> rfl

@[simp] theorem moveClosing_parks (t : Tc) : (t.moveClosing p).parks = t.parks := by
  unfold Tc.moveClosing; split <;> rfl

@[simp] theorem moveClosing_intents (t : Tc) : (t.moveClosing p).intents = t.intents := by
  unfold Tc.moveClosing; split <;> rfl

theorem takeFence_keeps {cause : FenceCause} : Keeps tidy s (s.onTc (·.takeFence p cause)) := by
  refine onTc_keeps (fun h => by simpa [Tc.takeFence, Tc.openRecord] using h) fun q ⟨hstage, hpark⟩ => ?_
  simp only [Tc.restsAt, Tc.takeFence, Tc.openRecord, moveClosing_records, moveClosing_parks, PerPort.get_set]
  constructor
  · split
    · simp
    · exact hstage
  · split
    · next h => rw [← h, hpark]; rfl
    · exact hpark

theorem takeOutcome_keeps {setId : Word} {seq : BitVec 64} {o : IntentOutcome} :
    Keeps tidy s (takeOutcome setId seq o s) :=
  onTc_keeps (fun h => by simpa using h) fun _ h => h

/-- R156, R157: a set joins the list after the oldest of two has left it. -/
theorem makeIntentSet_keeps : Keeps tidy s (makeIntentSet p s) := by
  have restsAt : ∀ (t : Tc) (n : Nat) (q : Port), t.restsAt q →
      ({ t with records := t.records.set p { t.records.get p with count := n } } : Tc).restsAt q := by
    rintro t n q ⟨hstage, hpark⟩
    refine ⟨?_, hpark⟩
    rw [PerPort.get_set]
    split
    · next h => exact h ▸ hstage
    · exact hstage
  refine .ite (fun _ => .refl) fun _ => ?_
  unfold discardOldest
  split
  · next room =>
    exact onTc_keeps (fun _ => by simp only [List.length_append, List.length_singleton]; omega) fun q h => restsAt _ _ q h
  · change Keeps tidy s (raise .intentDiscarded (s.onTc fun t =>
      { t with
        intents := t.intents.drop 1 ++ [⟨(t.records.get p).setId, p, (s.portWrites p).map intentOf⟩]
        discards := satSucc t.discards
        records := t.records.set p { t.records.get p with count := (s.portWrites p).length } }))
    refine raise_keeps.after (onTc_keeps (fun h => ?_) fun q h => restsAt _ _ q h)
    simp only [List.length_append, List.length_drop, List.length_singleton]
    omega

/-! ### The fence -/

theorem fenceNotice_keeps {cause : FenceCause} : Keeps tidy s (fenceNotice p cause s) :=
  .ite (fun _ => handOver_keeps) fun _ => .refl

theorem enterDrain_keeps : Keeps False s (enterDrain p s) := by
  refine .trans (Keeps.after (onTc_keeps_started id) onDct_keeps_of_eq) (.ite (fun _ => .refl) fun _ => ?_)
  split
  · exact onTc_keeps_started id
  · exact requestAborts_keeps

theorem fenceAction_keeps {cause : FenceCause} : Keeps False s (fenceAction p cause s) :=
  enterDrain_keeps.after <| raise_keeps.after <| fenceNotice_keeps.after <| makeIntentSet_keeps.after <|
    holderLeaves_keeps.after <| claimantFenced_keeps.after <| watchEntries_keeps.after <| flushQueue_keeps.after
      takeFence_keeps

/-- R139: a fence needs a started bridge. -/
theorem fencePort_keeps {cause : FenceCause} : Keeps tidy s (fencePort p cause s) :=
  .ite (fun _ => .refl) fun h =>
    .of_started (fenceAction_keeps.after onSup_keeps) fun _ hb => h (by simp [hb])

/-! ### The Port Supervisors -/

theorem judge_keeps : Keeps tidy s (judge p s) := by
  refine .ite (fun _ => ?_) fun _ => .refl
  split
  · exact setPort_keeps
  · exact .ite (fun _ => fencePort_keeps) fun _ => setPort_keeps
  · exact .ite (fun _ => fencePort_keeps) fun _ => setPort_keeps

theorem clearCause_keeps : Keeps tidy s (clearCause p s) := judge_keeps.after onSup_keeps

theorem enterEnrolled_keeps : Keeps tidy s (enterEnrolled p s) := by
  unfold enterEnrolled
  exact .after (onOc_keeps_of_table ⟨rfl, id, id⟩) onSup_keeps

theorem linkUpReport_keeps : Keeps tidy s (linkUpReport p s) := by
  unfold linkUpReport
  split
  · exact .ite (fun _ => .refl) fun _ => setPort_keeps
  · exact .ite (fun _ => clearCause_keeps) fun _ => .refl
  · exact .ite (fun _ => clearCause_keeps) fun _ => .refl
  · exact .refl

theorem clearStall_keeps : Keeps tidy s (clearStall p s) := onSup_keeps

theorem linkDownReport_keeps : Keeps tidy s (linkDownReport p s) := by
  have cleared : Keeps tidy s (clearStall p s) := clearStall_keeps
  refine cleared.trans ?_
  unfold linkDownReport
  dsimp only
  split
  · exact setPort_keeps
  · exact suspect_keeps
  · exact onSup_keeps
  · exact onSup_keeps
  · exact .refl

theorem leaveStarting_keeps : Keeps tidy s (leaveStarting p s) := .ite (fun _ => setPort_keeps) fun _ => .refl

theorem portsLeaveStarting_keeps : Keeps tidy s (portsLeaveStarting s) := leaveStarting_keeps.after leaveStarting_keeps

theorem ownReport_keeps {before after : Settled} : Keeps tidy s (ownReport p before after s) := by
  unfold ownReport
  split
  · exact fencePort_keeps
  · exact (Keeps.ite (fun _ => clearStall_keeps) fun _ => .refl).trans (.ite (fun _ => clearCause_keeps) fun _ => .refl)

theorem settledReport_keeps {before after : Settled} : Keeps tidy s (settledReport p before after s) :=
  ownReport_keeps.trans (.ite (fun _ => judge_keeps) fun _ => .refl)

theorem judgeBoth_keeps : Keeps tidy s (judgeBoth s) := judge_keeps.after judge_keeps

/-! ### Entry to SERVICE -/

theorem startShareWindow_keeps : Keeps tidy s (startShareWindow s) := onAu_keeps (fun _ => rfl) id

/-- R177, R179: SERVICE begins, from a state `u` that differs from a sound one only in what the load of an image changes:
the extent table, the map epoch, the identities, the settings and the generation. -/
theorem enterService_keeps_of {u : State} (hs : s.ic.bridge ≠ .service) (hh : s.ic.bridge ≠ .halted)
    (hpending : u.pending = s.pending := by rfl) (hplu : u.plu = s.plu := by rfl) (hau : u.au = s.au := by rfl)
    (hdct : u.dct = s.dct := by rfl) (htc : u.tc = s.tc := by rfl)
    (hepochs : EpochsBounded s → StartingClean s → EpochsBounded u ∧ s.oc.emap ≤ u.oc.emap) :
    Keeps tidy s (enterService u) where
  pending := hpending
  queues h q := by
    have bounded := h q
    rw [← hplu] at bounded
    exact bounded
  intents h := by
    rw [IntentsBounded, ← htc] at h
    exact h
  grants _ := rfl
  admission h q := by
    have empty : (enterService u).au.queue.get q = [] := by
      change u.au.queue.get q = []
      rw [hau]
      exact (h q).2 hs
    rw [empty]
    exact ⟨Nat.zero_le _, fun _ => rfl⟩
  lost := by
    rintro ⟨hiff, hempty⟩
    have notLost : s.dct.drive ≠ .lost := fun hd => hh (hiff.mp hd)
    rw [← hdct] at notLost hempty
    exact ⟨⟨fun hd => (notLost hd).elim, fun hb => nomatch hb⟩, hempty⟩
  tags h := by
    change TagsSound s at h
    unfold TagsSound at h ⊢
    rw [← hdct] at h
    exact h
  positions h := by
    rw [PositionsAgree, ← hplu] at h
    exact h
  started _ := nofun
  epochs _ he hc := by
    obtain ⟨he', hle⟩ := hepochs he hc
    exact ⟨he', nofun, hle⟩

theorem enterService_keeps (h : s.ic.bridge = .recovery) : Keeps tidy s (enterService s) :=
  enterService_keeps_of (by simp [h]) (by simp [h]) (hepochs := fun he _ => ⟨he, BitVec.le_refl _⟩)

/-! ### ENROL, takeover and park -/

theorem clearEnrol_keeps : Keeps tidy s (clearEnrol p s) := onSup_keeps

theorem enrolReleased_keeps {durable : Bool} : Keeps tidy s (enrolReleased p durable s) := by
  unfold enrolReleased
  split
  · exact .refl
  · exact clearEnrol_keeps.trans
      (.ite (fun _ => judge_keeps.after (answer_keeps.after enterEnrolled_keeps)) fun _ => answer_keeps)

theorem enrolExhausted_keeps : Keeps tidy s (enrolExhausted p s) := by
  unfold enrolExhausted
  split
  · exact .refl
  · exact answer_keeps.after clearEnrol_keeps

theorem enrolServed_keeps {first durable : Bool} : Keeps tidy s (enrolServed p first durable s) := by
  have service : Keeps tidy s (if first && s.ic.bridge == .recovery then enterService s else s) :=
    .ite (fun h => enterService_keeps (by simp_all)) fun _ => .refl
  unfold enrolServed
  generalize (if first && s.ic.bridge == .recovery then enterService s else s) = u at service ⊢
  refine service.trans ?_
  dsimp only
  split
  · exact .refl
  · exact answer_keeps.after clearEnrol_keeps

theorem handoverNotice_keeps {kind : HandoverKind} {dest : Option Port} {moved : Nat} {setId : Word} {entries : Nat}
    {durable : Bool} : Keeps tidy s (handoverNotice kind p dest moved setId entries durable s) := by
  unfold handoverNotice
  split
  · exact .refl
  · exact .after onPlu_keeps_of_eq handOver_keeps

theorem closeTakeover_keeps {x : TransferStep} {durable : Bool} : Keeps tidy s (closeTakeover p x durable s) :=
  raise_keeps.after <| oweClaims_keeps.after <| handoverNotice_keeps.after <| setRecord_keeps rfl nofun

theorem closeClosing_keeps {c : Closing} {x : TransferStep} {durable : Bool} : Keeps tidy s (closeClosing c x durable s) :=
  raise_keeps.after <| handoverNotice_keeps.after <| onTc_keeps id fun _ h => h

theorem takeoverReleased_keeps {x : TransferStep} {durable : Bool} : Keeps tidy s (takeoverReleased p x durable s) := by
  unfold takeoverReleased
  split
  · exact closeClosing_keeps
  · exact .ite (fun _ => closeTakeover_keeps) fun _ => .refl

theorem completePark_keeps {ref : Word} {durable : Bool} : Keeps tidy s (completePark p ref durable s) :=
  answer_keeps.after onSup_keeps

theorem parkReleased_keeps {x : TransferStep} {durable : Bool} : Keeps tidy s (parkReleased p x durable s) := by
  have parkEnds : Keeps tidy s (s.onTc fun c => { c with parks := c.parks.set p none }) := by
    refine onTc_keeps id fun q ⟨hstage, hpark⟩ => ⟨hstage, ?_⟩
    rw [PerPort.get_set]
    split
    · rfl
    · exact hpark
  unfold parkReleased
  split
  · refine .ite (fun _ => parkEnds.trans (.ite (fun _ => handoverNotice_keeps) fun _ => ?_)) fun _ => handoverNotice_keeps
    exact oweClaims_keeps.after (handoverNotice_keeps.after completePark_keeps)
  · exact handoverNotice_keeps

/-! ### Claims and requests -/

theorem claimReleased_keeps {x : TransferStep} {durable : Bool} : Keeps tidy s (claimReleased x durable s) := by
  unfold claimReleased
  split
  · exact endClaim_keeps
  · split
    · exact answer_keeps
    · exact .refl

theorem claimExhausted_keeps {x : TransferStep} : Keeps tidy s (claimExhausted x s) := by
  unfold claimExhausted
  split
  · exact endClaim_keeps
  · split
    · exact answer_keeps
    · exact .refl

theorem disclaimEnded_keeps {x : TransferStep} {r : AnsResult} {fl : MsgFlags} :
    Keeps tidy s (disclaimEnded x r fl s) := by
  unfold disclaimEnded
  split
  · exact answer_keeps
  · exact .refl

/-! ### Release -/

theorem reportStep_keeps {x : TransferStep} {durable : Bool} : Keeps tidy s (reportStep x durable s) := by
  unfold reportStep
  split
  · exact claimReleased_keeps
  · exact disclaimEnded_keeps
  · exact takeoverReleased_keeps
  · exact parkReleased_keeps
  · exact enrolReleased_keeps
  · exact finishPending_keeps
  · exact .refl

theorem afterRelease_keeps : Keeps False s (afterRelease s) :=
  .after (onOc_keeps_of_table ⟨rfl, id, id⟩) settleOwed_keeps

theorem releaseStep_keeps {x : TransferStep} {durable : Bool} : Keeps False s (releaseStep x durable s) :=
  afterRelease_keeps.after <| reportStep_keeps.after <| endStep_keeps.after changeStep_keeps

theorem refuseCommit_keeps {x : TransferStep} : Keeps False s (refuseCommit x s) := by
  have ended : Keeps False s (raise .epochExhausted (endStep x s)) := raise_keeps.after endStep_keeps
  refine ended.trans (afterRelease_keeps.after ?_)
  split
  · exact claimExhausted_keeps
  · exact disclaimEnded_keeps
  · exact enrolExhausted_keeps
  · exact .refl

theorem quiesceEnds_keeps {x : TransferStep} : Keeps False s (quiesceEnds x s) :=
  .ite (fun _ => refuseCommit_keeps) fun _ => commitStep_keeps

/-! ### Tickets -/

/-- A transfer record stands only at a started bridge. -/
theorem StartingClean.started_of_step {x : TransferStep} (hc : StartingClean s) (hx : x ∈ s.oc.steps) :
    s.ic.bridge ≠ .starting := fun hb => by
  obtain ⟨-, hsteps, -⟩ := hc hb
  exact absurd hx (by simp [hsteps])

theorem deliverTicket_keeps {x : Served} : Keeps tidy s (deliverTicket x s) := by
  unfold deliverTicket
  split
  · split
    · next hfind => exact .of_started releaseStep_keeps fun hc => hc.started_of_step (List.mem_of_find?_eq_some hfind)
    · exact .refl
  · exact answer_keeps
  · exact enrolServed_keeps
  · exact finishPending_keeps

theorem serveNext_keeps {x : Served} : Keeps tidy s (serveNext s x) :=
  deliverTicket_keeps.after (.ite (fun _ => admitWaiting_keeps) fun _ => .refl)

theorem serveTickets_keeps : Keeps tidy s (serveTickets s) := .after (.foldl (fun _ _ => serveNext_keeps) _) onIc_keeps

end Sys2Proof.Machine
end

section
/-! What the bridge, the drive port and the arbiter keep, and every internal step that is due. -/

namespace Sys2Proof.Machine

/- Declarations are elaborated one after another, which keeps the check within its memory. -/
set_option Elab.async false

variable {tidy : Prop} {s : State} {p : Port}

/-! ### HALTED -/

/-- Emptying a queue and answering records act on different blocks. -/
theorem clearQueue_answerRecords (q : Port) (st : CompStatus) (qs : List QueueRecord) :
    clearQueue q (answerRecords p st qs s) = answerRecords p st qs (clearQueue q s) := by
  induction qs generalizing s with
  | nil => rfl
  | cons r qs ih => exact ih (s := complete p r.tag st s)

theorem emptyQueue_a_queue_b : (emptyQueue .a s).au.queue.b = s.au.queue.b := by
  unfold emptyQueue answerRecords
  refine foldl_keeps (fun t : State => t.au.queue.b = s.au.queue.b) _ ?_ _ _ rfl
  exact fun _ _ h => h

/-- R180, R120: the drive is LOST and the bridge HALTED in one action, and both queues are empty. -/
def lostAndHalted (s : State) : State :=
  clearQueue .b (clearQueue .a ((raise .driveLost (s.onDct fun d =>
    { d with drive := .lost, attachTimer := none, retryTimer := none, reattachTimer := none })).onIc fun c =>
    { c with bridge := .halted }))

theorem lostAndHalted_keeps (hr : s.dct.drive ≠ .ready) : Keeps tidy s (lostAndHalted s) where
  pending := rfl
  queues := id
  intents := id
  grants := id
  admission _ q := by cases q <;> exact ⟨Nat.zero_le _, fun _ => rfl⟩
  lost := fun ⟨_, hempty⟩ => ⟨⟨fun _ => rfl, fun _ => rfl⟩, fun _ => hempty hr⟩
  tags := fun ⟨hempty, _, hrest⟩ => ⟨fun _ => hempty hr, nofun, hrest⟩
  positions := id
  started _ := nofun
  epochs _ he hc := ⟨he, nofun, BitVec.le_refl _⟩

/-- R180, R85, R75, R174: what comes about when the drive is given up, the answers coming after the queues are emptied. -/
theorem driveLost_eq : driveLost s =
    portsLeaveStarting (abandonCycle (List.foldl refuseAtHalt
      (answerRecords .b .notReady s.au.queue.b (answerRecords .a .notReady s.au.queue.a (lostAndHalted s)))
      (answerRecords .b .notReady s.au.queue.b (answerRecords .a .notReady s.au.queue.a (lostAndHalted s))).oc.claims)) := by
  unfold driveLost enterHalted
  dsimp only
  generalize hu : (raise .driveLost (s.onDct fun d =>
    { d with drive := .lost, attachTimer := none, retryTimer := none, reattachTimer := none })).onIc (fun c =>
    { c with bridge := .halted }) = u
  have queues : u.au = s.au := by rw [← hu]; rfl
  have both : emptyQueue .b (emptyQueue .a u) =
      answerRecords .b .notReady s.au.queue.b (answerRecords .a .notReady s.au.queue.a (lostAndHalted s)) := by
    have second : (emptyQueue .a u).au.queue.get .b = s.au.queue.b := emptyQueue_a_queue_b.trans (by rw [queues])
    rw [emptyQueue, second, emptyQueue, clearQueue_answerRecords, lostAndHalted, hu, queues]
    rfl
  rw [both]

theorem driveLost_keeps (hr : s.dct.drive ≠ .ready) : Keeps tidy s (driveLost s) := by
  rw [driveLost_eq]
  exact portsLeaveStarting_keeps.after <| abandonCycle_keeps.after <| .after (.foldl (fun _ _ => refuseAtHalt_keeps) _) <|
    answerRecords_keeps.after <| answerRecords_keeps.after <| lostAndHalted_keeps hr

/-! ### Attach and the image READ -/

/-- A drive that has no command at it goes from one state short of LOST and READY to another. -/
theorem setDrive_keeps {f : Dct → Dct} (hr : s.dct.drive ≠ .ready) (hl : s.dct.drive ≠ .lost)
    (hr' : (f s.dct).drive ≠ .ready) (hl' : (f s.dct).drive ≠ .lost)
    (he : (f s.dct).entries = s.dct.entries := by rfl) : Keeps tidy s (s.onDct f) := by
  apply onDct_keeps
  · exact fun ⟨hiff, hempty⟩ => ⟨⟨fun h => (hl' h).elim, fun h => (hl (hiff.mpr h)).elim⟩, fun _ => he.trans (hempty hr)⟩
  · rintro ⟨hempty, -, -⟩
    have none : (s.onDct f).dct.entries = [] := he.trans (hempty hr)
    unfold TagsSound
    rw [none]
    exact ⟨fun _ => rfl, fun h => (hr' h).elim, List.nodup_nil, nofun, fun _ => nofun⟩

/-- A drive that has no command at it becomes READY with a depth. -/
theorem driveReady_keeps {f : Dct → Dct} (hr : s.dct.drive ≠ .ready) (hl : s.dct.drive ≠ .lost)
    (hr' : (f s.dct).drive = .ready) (hdepth : 1 ≤ (f s.dct).depth) (he : (f s.dct).entries = s.dct.entries := by rfl) :
    Keeps tidy s (s.onDct f) := by
  apply onDct_keeps
  · exact fun ⟨hiff, _⟩ => ⟨⟨fun h => by simp [hr'] at h, fun h => (hl (hiff.mpr h)).elim⟩, fun h => (h hr').elim⟩
  · rintro ⟨hempty, -, -⟩
    have none : (s.onDct f).dct.entries = [] := he.trans (hempty hr)
    unfold TagsSound
    rw [none]
    exact ⟨fun _ => rfl, fun _ => hdepth, List.nodup_nil, nofun, fun _ => nofun⟩

theorem attachAttempt_keeps (h : s.dct.drive = .absent) : Keeps tidy s (attachAttempt s) :=
  setDrive_keeps (by simp [h]) (by simp [h]) nofun nofun

theorem reattachAttempt_keeps {no : Nat} : Keeps tidy s (reattachAttempt no s) := onDct_keeps_of_eq

theorem takenDepth_pos {depth : Nat} (h : depth ≠ 0) : 1 ≤ takenDepth depth := by
  unfold takenDepth
  omega

theorem firstAttach_keeps {capacity block depth : Nat} (h : s.dct.drive = .attaching) (hd : depth ≠ 0) :
    Keeps tidy s (firstAttach capacity block depth s) := by
  unfold firstAttach
  exact .after onIc_keeps <| .after (onOc_keeps_of_table ⟨rfl, id, id⟩) <|
    driveReady_keeps (by simp [h]) (by simp [h]) rfl (takenDepth_pos hd)

theorem takeImageBytes_keeps {off : Nat} {bytes : List Byte} : Keeps tidy s (takeImageBytes off bytes s) :=
  .ite (fun _ => onIc_keeps) fun _ => .refl

theorem le_satSucc {w : Nat} (x : BitVec w) : x ≤ satSucc x := by
  unfold satSucc
  split
  · exact BitVec.le_refl _
  · next h =>
    have below : x.toNat ≠ 2 ^ w - 1 := fun hx => h (BitVec.eq_of_toNat_eq (by rw [hx, BitVec.toNat_allOnes]))
    have bound := x.isLt
    rw [BitVec.le_def, BitVec.toNat_add]
    rcases Nat.eq_zero_or_pos w with rfl | hw
    · omega
    · have one : (1 : BitVec w).toNat = 1 := Nat.mod_eq_of_lt (Nat.one_lt_two_pow (Nat.ne_of_gt hw))
      rw [one, Nat.mod_eq_of_lt (by omega)]
      omega

/-- R178: the part enters RECOVERY with a table of epoch 0. -/
theorem enterRecovery_keeps (hb : s.ic.bridge = .starting) : Keeps tidy s (enterRecovery s) := by
  refine portsLeaveStarting_keeps.after (raise_keeps.after ?_)
  have plu : ∀ k v, (buildTable k v s).plu = s.plu := fun k v => by simp [buildTable, raiseClamped]
  have au : ∀ k v, (buildTable k v s).au = s.au := fun k v => by simp [buildTable, raiseClamped]
  have dct : ∀ k v, (buildTable k v s).dct = s.dct := fun k v => by simp [buildTable, raiseClamped]
  have tc : ∀ k v, (buildTable k v s).tc = s.tc := fun k v => by simp [buildTable, raiseClamped]
  have pending : ∀ k v, (buildTable k v s).pending = s.pending := fun k v => by simp [buildTable, raiseClamped]
  exact {
    pending := by simp [pending]
    queues := fun h q => by simpa [plu] using h q
    intents := fun h => by simpa [IntentsBounded, tc] using h
    grants := fun h => by simpa [GrantsCounted, au] using h
    admission := fun h q => by
      have empty := (h q).2 (by simp [hb])
      simp [au, empty]
    lost := by
      rintro ⟨hiff, hempty⟩
      have notLost : s.dct.drive ≠ .lost := fun h => by simp [hb] at hiff; exact hiff h
      exact ⟨by simpa [dct] using notLost, by simpa [dct] using hempty⟩
    tags := fun h => by
      unfold TagsSound at h ⊢
      simpa only [State.onIc_dct, State.onOc_dct, dct] using h
    positions := fun h => by simpa [PositionsAgree, plu] using h
    started := fun h => (h hb).elim
    epochs := fun _ _ hc => by
      refine ⟨fun e he => ?_, nofun, ?_⟩
      · simp only [State.onIc_oc, State.onOc_oc, buildTable, raiseClamped, raiseIf_oc, freshTable, List.mem_replicate] at he
        rw [he.2]
        exact BitVec.le_refl _
      · rw [(hc hb).1]
        exact BitVec.le_refl _ }

/-- R177: a valid image is loaded, and its change epochs stand at or below its epoch. -/
theorem loadImage_keeps {x : Loaded} (hb : s.ic.bridge = .starting) (hx : ∀ e ∈ x.extents, e.epoch ≤ x.epoch) :
    Keeps tidy s (loadImage x s) := by
  refine portsLeaveStarting_keeps.after (enterService_keeps_of (by simp [hb]) (by simp [hb]) (hepochs := fun _ hc => ?_)
    (hpending := by simp [raiseClamped]) (hplu := by simp [raiseClamped]) (hau := by simp [raiseClamped])
    (hdct := by simp [raiseClamped]) (htc := by simp [raiseClamped]))
  refine ⟨fun e he => ?_, ?_⟩
  · simp only [State.onIc_oc, setEpoch_oc, raiseClamped, raiseIf_oc, State.onOc_oc] at he ⊢
    exact BitVec.le_trans (hx e he) (le_satSucc _)
  · rw [(hc hb).1]
    exact Nat.zero_le _

theorem leNat_lt (bs : List Byte) : leNat bs < 256 ^ bs.length := by
  induction bs with
  | nil => exact Nat.one_pos
  | cons b bs ih =>
    have byte : b.toNat < 256 := b.isLt
    rw [leNat, List.length_cons, Nat.pow_succ]
    omega

/-- R23: a field of n bytes is a number below 256 ^ n. -/
theorem fieldAt_lt (bs : List Byte) (off n : Nat) : fieldAt bs off n < 256 ^ n :=
  Nat.lt_of_lt_of_le (leNat_lt _) (Nat.pow_le_pow_right (by decide) (List.length_take_le _ _))

/-- R168, test 7: the change epochs of a valid image stand at or below its epoch. -/
theorem decodeImage_bounded {v : Nat} {img : List Byte} (h : imageValid v img = true) :
    ∀ e ∈ (decodeImage v img).extents, e.epoch ≤ (decodeImage v img).epoch := by
  simp only [imageValid, Bool.and_eq_true, List.all_eq_true, decide_eq_true_eq] at h
  obtain ⟨-, epochs⟩ := h
  simp only [decodeImage, List.forall_mem_map]
  intro x hx
  rw [BitVec.le_def]
  simp only [extentOfImage, BitVec.toNat_ofNat]
  have small : ∀ off, fieldAt img off 4 % 2 ^ 32 = fieldAt img off 4 := fun off => Nat.mod_eq_of_lt (fieldAt_lt img off 4)
  rw [small, small]
  exact epochs x hx

theorem imageReadEnds_keeps {good : Bool} (hb : s.ic.bridge = .starting) : Keeps tidy s (imageReadEnds good s) :=
  .ite (fun h => loadImage_keeps hb (decodeImage_bounded (by simp_all))) fun _ => enterRecovery_keeps hb

theorem bridgeEnds_keeps {good : Bool} : Keeps tidy s (bridgeEnds good s) := by
  refine .ite imageReadEnds_keeps fun _ => ?_
  split
  · exact .refl
  · exact writeSucceeds_keeps
  · exact cycleSucceeds_keeps
  · exact attemptFails_keeps

/-! ### Entries of the drive command table -/

theorem changeEntry_keeps {tag : Nat} {g : Entry → Entry} (hg : ∀ e, (g e).key = e.key) :
    Keeps tidy s (changeEntry tag g s) :=
  mapEntries_keeps rfl fun e => by
    split
    · exact hg e
    · rfl

/-- R103: an entry joins the table under a tag that is free, and whose side of D - 1 tells its origin. -/
theorem enter_keeps {f : Dct → Dct} {e : Entry} (he : (f s.dct).entries = s.dct.entries ++ [e])
    (hr : s.dct.drive = .ready) (hfree : s.dct.tagUsed e.tag = false) (hlt : 1 ≤ s.dct.depth → e.tag < s.dct.depth)
    (ho : 2 ≤ s.dct.depth → (e.tag = s.dct.depth - 1 ↔ e.origin = .bridge))
    (hdrive : (f s.dct).drive = s.dct.drive := by rfl) (hdepth : (f s.dct).depth = s.dct.depth := by rfl) :
    Keeps tidy s (s.onDct f) := by
  have hdrive' : (s.onDct f).dct.drive = s.dct.drive := hdrive
  have hdepth' : (s.onDct f).dct.depth = s.dct.depth := hdepth
  have he' : (s.onDct f).dct.entries = s.dct.entries ++ [e] := he
  apply onDct_keeps
  · exact fun ⟨hiff, _⟩ => ⟨by rw [hdrive']; exact hiff, fun h => (h (hdrive'.trans hr)).elim⟩
  · unfold TagsSound
    rw [hdrive', hdepth', he']
    rintro ⟨-, hready, hnodup, hbelow, hbridge⟩
    have new : ∀ x ∈ s.dct.entries, x.tag ≠ e.tag := by simpa [Dct.tagUsed] using hfree
    refine ⟨fun h => (h hr).elim, hready, ?_, ?_, ?_⟩
    · simpa [List.nodup_append] using ⟨hnodup, new⟩
    · simpa [or_imp, forall_and] using ⟨hbelow, hlt (hready hr)⟩
    · intro h2
      simpa [or_imp, forall_and] using ⟨hbridge h2, ho h2⟩

theorem raiseInflight_keeps {r : Range} : Keeps tidy s (raiseInflight r s) := mapExtents_keeps

theorem lowerInflight_keeps {r : Range} : Keeps tidy s (lowerInflight r s) := mapExtents_keeps

theorem transferReady_keeps {q : QueueRecord} : Keeps tidy s (transferReady p q s) := by
  unfold transferReady
  split
  · exact pushData_keeps
  · exact .refl

theorem countWrite_keeps {q : QueueRecord} : Keeps tidy s (countWrite q s) := by
  unfold countWrite
  split
  · exact raiseInflight_keeps
  · exact .refl

theorem uncountWrite_keeps {e : Entry} : Keeps tidy s (uncountWrite e s) := by
  unfold uncountWrite
  split
  · exact lowerInflight_keeps
  · exact .refl

/-- R103, R87: a server drive tag that is free. -/
theorem freeTag_some {d : Dct} {tag : Nat} (h : d.freeTag = some tag) :
    d.tagUsed tag = false ∧ (1 ≤ d.depth → tag < d.depth) ∧ (2 ≤ d.depth → tag ≠ d.depth - 1) := by
  unfold Dct.freeTag at h
  split at h
  · exact nomatch h
  · have free := List.find?_some h
    have server := List.mem_of_find?_eq_some h
    refine ⟨by simpa using free, ?_⟩
    unfold Dct.serverTags at server
    split at server
    · next h1 =>
      simp only [List.mem_singleton] at server
      omega
    · simp only [List.mem_range] at server
      omega

theorem issueServer_keeps {tag : Nat} {q : QueueRecord} (hr : s.dct.drive = .ready) (hf : s.dct.freeTag = some tag) :
    Keeps tidy s (issueServer p tag q s) := by
  obtain ⟨free, below, server⟩ := freeTag_some hf
  exact transferReady_keeps.after <| sendDrive_keeps.after <| countWrite_keeps.after <|
    enter_keeps rfl hr free below fun h2 => by simpa using server h2

/-- R104: the waiting bridge command, the READY drive and the free bridge tag. -/
theorem bridgeReady_some {d : Dct} {c : BridgeCmd} (h : d.bridgeReady = some c) :
    d.drive = .ready ∧ d.tagUsed d.bridgeTag = false ∧ d.bridgeWait = some c := by
  unfold Dct.bridgeReady at h
  split at h
  · next hc =>
    simp only [Bool.and_eq_true, decide_eq_true_eq, Bool.not_eq_true'] at hc
    exact ⟨hc.1, hc.2, h⟩
  · exact nomatch h

theorem issueBridge_keeps {c : BridgeCmd} (h : s.dct.bridgeReady = some c) : Keeps tidy s (issueBridge c s) := by
  obtain ⟨ready, free, -⟩ := bridgeReady_some h
  exact sendDrive_keeps.after <|
    enter_keeps rfl ready free (fun h1 => by simp [Dct.bridgeTag]; omega) fun _ => by simp [Dct.bridgeTag]

theorem completeEntry_keeps {e : Entry} {x : Ending} : Keeps tidy s (completeEntry p e x s) :=
  .ite (fun _ => onPlu_keeps_of_eq) fun _ => handOver_keeps

theorem routeResult_keeps {e : Entry} {x : Ending} : Keeps tidy s (routeResult e x s) := by
  unfold routeResult
  split
  · exact bridgeEnds_keeps
  · exact completeEntry_keeps
  · split
    · exact takeOutcome_keeps
    · exact .refl

theorem endEntry_keeps {e : Entry} {x : Ending} : Keeps tidy s (endEntry e x s) :=
  routeResult_keeps.after <| uncountWrite_keeps.after <|
    onDct_keeps_of_within { keys := List.filter_sublist.map _ }

theorem clearInflight_keeps : Keeps tidy s (clearInflight s) :=
  onOc_keeps ⟨rfl, id, id⟩ fun hb => List.forall_mem_map.mpr hb

/-- R114: a drive reset, of a drive that is READY or has a command at it. -/
theorem driveReset_keeps (h : s.dct.drive = .ready ∨ s.dct.entries ≠ []) : Keeps tidy s (driveReset s) := by
  refine reattachAttempt_keeps.after <| raise_keeps.after <| .after (.foldl (fun _ _ => routeResult_keeps) _) <|
    clearInflight_keeps.after <| onDct_keeps ?_ fun _ => ⟨fun _ => rfl, nofun, by simp, by simp, by simp⟩
  rintro ⟨hiff, hempty⟩
  have ready : s.dct.drive = .ready := h.elim id fun he => Classical.byContradiction fun hr => he (hempty hr)
  have notHalted : s.ic.bridge ≠ .halted := fun hb => by simp [ready] at hiff; exact hiff hb
  exact ⟨⟨nofun, fun hb => (notHalted hb).elim⟩, fun _ => rfl⟩

/-! ### Port clear -/

theorem takeoverTransfer_keeps : Keeps False s (takeoverTransfer p s) :=
  requestStep_keeps.after (onTc_keeps_started id)

theorem parkTransfer_keeps {r : ParkRecord} : Keeps False s (parkTransfer p r s) :=
  requestStep_keeps.after (.after (onTc_keeps_started id) onSup_keeps)

theorem reportClear_keeps : Keeps tidy s (reportClear p s) := by
  have reported : Keeps tidy s (s.onDct fun d => { d with clearReq := d.clearReq.set p false }) := onDct_keeps_of_eq
  refine reported.trans (.ite (fun hdrain => ?_) fun _ => ?_)
  · exact .of_started takeoverTransfer_keeps fun hc hb => ((hc hb).2.2.2 p).1 hdrain
  · split
    · next r hpark =>
      refine .ite (fun _ => .of_started parkTransfer_keeps fun hc hb => ?_) fun _ => .refl
      exact absurd hpark (by rw [((hc hb).2.2.2 p).2]; nofun)
    · exact .refl

theorem reportEmpty_keeps : Keeps tidy s (reportEmpty p s) := by
  refine .after onDct_keeps_of_eq (onTc_keeps id fun q ⟨hstage, hpark⟩ => ⟨hstage, ?_⟩)
  rw [PerPort.get_set]
  split
  · next h => rw [← h, hpark]; rfl
  · exact hpark

/-! ### Admission -/

/-- A queue and its depth changed at one port: the queue stays within the depth, and an empty one stays empty. -/
theorem setQueue_keeps {f : Au → Au} {qs : List QueueRecord} {d : Nat} (hq : (f s.au).queue = s.au.queue.set p qs)
    (hd : (f s.au).depth = s.au.depth.set p d)
    (hlen : (s.au.queue.get p).length ≤ s.au.depth.get p → qs.length ≤ d)
    (hempty : s.ic.bridge ≠ .service → s.au.queue.get p = [] → qs = [])
    (hg : (f s.au).granted = s.au.granted := by rfl) (hw : (f s.au).w = s.au.w := by rfl) :
    Keeps tidy s (s.onAu f) := by
  refine onAu_keeps (fun h => ?_) fun h q => ?_
  · rw [GrantsCounted, State.onAu_au, hg, hw]
    exact h
  · obtain ⟨len, empty⟩ := h q
    simp only [State.onAu_au, State.onAu_ic, hq, hd, PerPort.get_set]
    by_cases hqp : q = p
    · subst hqp
      simpa using ⟨hlen len, fun hb => hempty hb (empty hb)⟩
    · simpa [hqp] using ⟨len, empty⟩

/-- R78: a command that passes the arrival check finds SERVICE and room in its queue. -/
theorem arrivalCheck_none {tag : Word} {range : Option (BitVec 48 × Word)} (h : s.arrivalCheck p tag range = none) :
    s.ic.bridge = .service ∧ (s.au.queue.get p).length < s.au.depth.get p := by
  unfold State.arrivalCheck at h
  repeat' split at h
  all_goals simp_all

theorem admitCommand_keeps {tag : Word} {op : Op} {ec : Epoch} {range : Option (BitVec 48 × Word)} :
    Keeps tidy s (admitCommand p tag op ec range s) := by
  unfold admitCommand
  split
  · exact complete_keeps
  · next h =>
    obtain ⟨service, room⟩ := arrivalCheck_none h
    exact setQueue_keeps rfl (PerPort.set_get _ _).symm (fun _ => by
      rw [List.length_append]
      exact room) fun hb => (hb service).elim

theorem dropHead_keeps : Keeps tidy s (dropHead p s) :=
  setQueue_keeps rfl (PerPort.set_get _ _).symm (fun h => by rw [List.length_tail]; exact Nat.le_trans (Nat.sub_le _ _) h)
    fun _ h => by rw [h]; rfl

theorem takeDepth_keeps (h : (s.au.queue.get p).length ≤ s.cfg.depth) : Keeps tidy s (takeDepth p s) :=
  setQueue_keeps (PerPort.set_get _ _).symm rfl (fun _ => h) fun _ h => h

theorem depthDue_le (h : s.depthDue p = true) : (s.au.queue.get p).length ≤ s.cfg.depth := by
  simp only [State.depthDue, Bool.and_eq_true, decide_eq_true_eq] at h
  exact h.2

/-- R94: a grant counts for its port and for the window. -/
theorem countGrant_keeps : Keeps tidy s (countGrant p s) := by
  refine onAu_keeps (fun h => ?_) id
  unfold GrantsCounted at h
  cases p with
  | a => change s.au.granted.a + 1 + s.au.granted.b = s.au.w + 1; omega
  | b => change s.au.granted.a + (s.au.granted.b + 1) = s.au.w + 1; omega

theorem grantHead_keeps {tag : Nat} {q : QueueRecord} (hr : s.dct.drive = .ready) (hf : s.dct.freeTag = some tag) :
    Keeps tidy s (grantHead p tag q s) := by
  unfold grantHead
  split
  · exact complete_keeps.after dropHead_keeps
  · exact countGrant_keeps.after (.after (issueServer_keeps hr hf) dropHead_keeps)

/-- R82: a port is selected only while the drive is READY. -/
theorem selected_ready (h : s.selected = some p) : s.dct.drive = .ready := by
  have eligible : s.eligible .a = true ∨ s.eligible .b = true := by
    unfold State.selected at h
    split at h <;> simp_all
  rcases eligible with h | h <;>
  · simp only [State.eligible, Bool.and_eq_true, beq_iff_eq] at h
    exact h.1.2

theorem arbiterDecides_keeps : Keeps tidy s (arbiterDecides s) := by
  unfold arbiterDecides
  split
  · next hfree hsel =>
    split
    · exact grantHead_keeps (selected_ready hsel) hfree
    · exact .refl
  · exact .refl

/-! ### The internal steps -/

theorem stallLimit_keeps : Keeps tidy s (stallLimit p s) :=
  onSup_keeps.trans (.ite (fun _ => suspect_keeps) fun _ => .refl)

theorem runDue_keeps {held : Option Port} {d : Due} (h : nextDueHolding held s = some d) : Keeps tidy s (runDue d s) := by
  have cause := nextDueHolding_some h
  cases d with
  | ticketServed => exact serveTickets_keeps
  | stepAdmitted => exact admitWaiting_keeps
  | cycleBegin => exact beginCycle_keeps
  | bridgeIssue c => exact issueBridge_keeps cause
  | portClear p => exact reportClear_keeps
  | emptyReport p => exact reportEmpty_keeps
  | commit x =>
    exact .of_started quiesceEnds_keeps fun hc => hc.started_of_step (List.mem_of_find?_eq_some cause)
  | stall p => exact stallLimit_keeps
  | depth p => exact takeDepth_keeps (depthDue_le cause)
  | windowEnd => exact startShareWindow_keeps

theorem settleFor_keeps_all {held : Option Port} {n : Nat} : Keeps tidy s (settleFor held n s) :=
  settleFor_keeps (Keeps tidy s) held (fun _ _ hd h => h.trans (runDue_keeps hd)) n s .refl

theorem settle_keeps_all : Keeps tidy s (settle s) := settleFor_keeps_all

end Sys2Proof.Machine
end

section
/-! What every command but a full reset keeps, what a full reset leaves, and the statements about every step. -/

namespace Sys2Proof.Machine

/- Declarations are elaborated one after another, which keeps the check within its memory. -/
set_option Elab.async false

variable {tidy : Prop} {s : State} {p : Port}

/-! ### Messages -/

theorem lengthLost_keeps : Keeps tidy s (lengthLost p s) := damage_keeps.after onPlu_keeps_of_eq

theorem byLength_keeps {h : Header} {len : Nat} {wrong ok : State → State} (hw : Keeps tidy s (wrong s))
    (ho : Keeps tidy s (ok s)) : Keeps tidy s (byLength p h len wrong ok s) :=
  .ite (fun _ => lengthLost_keeps) fun _ => .ite (fun _ => hw) fun _ => ho

/-- R29: a control request is served at a started bridge only. -/
theorem request_keeps {h : Header} {len : Nat} {fieldsOk : Bool} {wrongBody body : AnswerBody} {serve : State → State}
    (hs : Keeps False s (serve s)) : Keeps tidy s (request p h len fieldsOk wrongBody body serve s) :=
  byLength_keeps answer_keeps <| .ite (fun _ => answer_keeps) fun _ =>
    .ite (fun _ => answer_keeps) fun hb => .of_started hs fun _ => by simpa using hb

theorem driveCommand_keeps {h : Header} {len : Nat} {op : Op} {ec : Epoch} {range : Option (BitVec 48 × Word)} :
    Keeps tidy s (driveCommand p h len op ec range s) :=
  byLength_keeps complete_keeps <| .ite (fun _ => complete_keeps) fun _ => admitCommand_keeps

theorem takeUndefined_keeps {h : Header} : Keeps tidy s (takeUndefined p h s) :=
  .ite (fun _ => lengthLost_keeps) fun _ => damage_keeps

theorem passData_keeps {e : Entry} {bytes : List Byte} : Keeps tidy s (passData e bytes s) := by
  have moved : Keeps tidy s (changeEntry e.tag (fun f => { f with nextOffset := f.nextOffset + bytes.length }) s) :=
    changeEntry_keeps fun _ => rfl
  exact moved.trans (.ite (fun _ => .refl) fun _ => sendDrive_keeps)

theorem takeWriteData_keeps {h : Header} {offset : BitVec 32} {bytes : List Byte} :
    Keeps tidy s (takeWriteData p h offset bytes s) := by
  refine .ite (fun _ => lengthLost_keeps) fun _ => .ite (fun _ => .refl) fun _ => ?_
  split
  · exact passData_keeps
  · exact .refl

theorem recoverEpoch_keeps {epoch : Epoch} : Keeps False s (recoverEpoch epoch s) :=
  .ite (fun h => setEpoch_keeps (BitVec.le_trans h (le_satSucc _))) fun _ => .refl

theorem enrolInRecovery_keeps {h : Header} {epoch : Epoch} : Keeps False s (enrolInRecovery p h epoch s) :=
  judge_keeps.after <| takeTicket_keeps.after <| .after onIc_keeps <| recoverEpoch_keeps.after <|
    enterEnrolled_keeps.after onSup_keeps

theorem enrolNow_keeps {h : Header} : Keeps tidy s (enrolNow p h s) :=
  judge_keeps.after (answer_keeps.after enterEnrolled_keeps)

theorem serveEnrol_keeps {h : Header} {epoch : Epoch} : Keeps False s (serveEnrol p h epoch s) := by
  unfold serveEnrol
  split
  · exact answer_keeps.after raiseIf_keeps
  · exact .ite (fun _ => enrolInRecovery_keeps) fun _ =>
      .ite (fun _ => requestStep_keeps.after onSup_keeps) fun _ => enrolNow_keeps

theorem takeEnrol_keeps {h : Header} {epoch : Epoch} : Keeps tidy s (takeEnrol p h epoch s) :=
  request_keeps serveEnrol_keeps

theorem acceptPark_keeps {h : Header} : Keeps False s (acceptPark p h s) :=
  holderLeaves_keeps.after <| claimantParks_keeps.after <| .after (onTc_keeps_started id) onSup_keeps

theorem takePark_keeps {h : Header} : Keeps tidy s (takePark p h s) :=
  request_keeps (.ite (fun _ => acceptPark_keeps) fun _ => answer_keeps)

theorem recordClaim_keeps {ref : Word} {f n : Nat} : Keeps False s (recordClaim p ref f n s) := by
  have recorded : ∀ c : Claim, Keeps False s (s.onOc fun o =>
      { mapExtents (inRun f n) (fun e => { e with claim := some s.oc.nextClaimId }) o with
        claims := o.claims ++ [c], lastClaimId := s.oc.nextClaimId }) :=
    fun c => onOc_keeps_started ⟨BitVec.le_refl _, mapExtents_bounded fun _ h => h⟩
  exact .ite (fun _ => recorded _) fun _ => askHolder_keeps.after (recorded _)

theorem serveClaim_keeps {h : Header} {f n : Nat} : Keeps False s (serveClaim p h f n s) := by
  unfold serveClaim
  split
  · exact answer_keeps.after raiseIf_keeps
  · exact .ite (fun _ => recordClaim_keeps) fun _ => .ite (fun _ => startStep_keeps) fun _ => answer_keeps

theorem takeClaim_keeps {h : Header} {f n : Word} : Keeps tidy s (takeClaim p h f n s) := request_keeps serveClaim_keeps

theorem yieldOn_keeps {h : Header} {c : Claim} : Keeps False s (yieldOn p h c s) :=
  .ite (fun _ => answer_keeps) fun _ =>
    .ite (fun _ => raise_keeps.after (answer_keeps.after endClaim_keeps)) fun _ => answer_keeps.after transferClaim_keeps

theorem takeYield_keeps {h : Header} {id : Byte} : Keeps tidy s (takeYield p h id s) := by
  refine request_keeps ?_
  unfold serveYield
  split
  · exact answer_keeps
  · exact yieldOn_keeps
  · exact answer_keeps

theorem takeKeep_keeps {h : Header} {id : Byte} : Keeps tidy s (takeKeep p h id s) := by
  refine request_keeps ?_
  unfold serveKeep
  split
  · exact answer_keeps
  · exact answer_keeps.after endClaim_keeps
  · exact answer_keeps

theorem takeDisclaim_keeps {h : Header} {f n : Word} : Keeps tidy s (takeDisclaim p h f n s) := by
  refine request_keeps ?_
  unfold serveDisclaim
  split
  · exact answer_keeps.after raiseIf_keeps
  · exact startStep_keeps

theorem takeSetPolicy_keeps {h : Header} {f n : Word} {code : Byte} : Keeps tidy s (takeSetPolicy p h f n code s) := by
  refine request_keeps ?_
  unfold servePolicy
  split
  · exact answer_keeps
  · exact takeTicket_keeps.after (mapExtents_keeps fun _ => rfl)

theorem takeTakeover_keeps {h : Header} {target : Byte} : Keeps tidy s (takeTakeover p h target s) := by
  refine request_keeps ?_
  unfold serveTakeover
  split
  · exact answer_keeps
  · exact answer_keeps.after fencePort_keeps

theorem serveMapQuery_keeps {h : Header} {f n : Nat} : Keeps tidy s (serveMapQuery p h f n s) :=
  .ite (fun _ => answer_keeps) fun _ => .ite (fun _ => answer_keeps) fun _ => answer_keeps

theorem takeMapQuery_keeps {h : Header} {f n : Word} : Keeps tidy s (takeMapQuery p h f n s) := by
  have cleared : Keeps tidy s (if lengthInRange h.length then clearHandover p s else s) :=
    .ite (fun _ => onPlu_keeps_of_eq) fun _ => .refl
  exact cleared.trans (request_keeps serveMapQuery_keeps)

theorem takeIntentRead_keeps {h : Header} {setId : Word} : Keeps tidy s (takeIntentRead p h setId s) := by
  refine request_keeps ?_
  unfold serveIntentRead
  split
  · exact answer_keeps
  · exact .ite (fun _ => answer_keeps) fun _ => answer_keeps

theorem removeSet_keeps {setId : Word} : Keeps tidy s (removeSet setId s) :=
  onTc_keeps (fun h => Nat.le_trans (List.length_filter_le _ _) h) fun _ h => h

theorem takeIntentClear_keeps {h : Header} {setId : Word} : Keeps tidy s (takeIntentClear p h setId s) :=
  request_keeps <| .ite (fun _ => answer_keeps) fun _ =>
    .ite (fun _ => answer_keeps) fun _ => answer_keeps.after removeSet_keeps

theorem takeStateQuery_keeps {h : Header} : Keeps tidy s (takeStateQuery p h s) :=
  byLength_keeps answer_keeps answer_keeps

theorem deliver_keeps {m : List Byte} : Keeps tidy s (deliver p m s) :=
  settle_keeps_all.trans <|
    .ite (fun _ => driveCommand_keeps) fun _ => .ite (fun _ => driveCommand_keeps) fun _ =>
    .ite (fun _ => driveCommand_keeps) fun _ => .ite (fun _ => takeWriteData_keeps) fun _ =>
    .ite (fun _ => takeEnrol_keeps) fun _ => .ite (fun _ => takePark_keeps) fun _ =>
    .ite (fun _ => takeClaim_keeps) fun _ => .ite (fun _ => takeYield_keeps) fun _ =>
    .ite (fun _ => takeKeep_keeps) fun _ => .ite (fun _ => takeDisclaim_keeps) fun _ =>
    .ite (fun _ => takeSetPolicy_keeps) fun _ => .ite (fun _ => takeTakeover_keeps) fun _ =>
    .ite (fun _ => takeMapQuery_keeps) fun _ => .ite (fun _ => takeIntentRead_keeps) fun _ =>
    .ite (fun _ => takeIntentClear_keeps) fun _ => .ite (fun _ => takeStateQuery_keeps) fun _ => takeUndefined_keeps

/-! ### Frames in -/

theorem enterAligned_keeps {marker : Nat} : Keeps tidy s (enterAligned p marker s) := by
  have aligned : Keeps tidy s (s.onPlu p (·.align3 marker)) := onPlu_keeps_of_eq
  exact aligned.trans (.ite (fun _ => linkUpReport_keeps) fun _ => .refl)

theorem searchFrame_keeps {fr : Frame} : Keeps tidy s (searchFrame p fr s) :=
  .ite (fun _ => onPlu_keeps_of_eq) fun _ => .ite (fun _ => onPlu_keeps_of_eq) fun _ =>
    .ite (fun _ => enterAligned_keeps) fun _ => onPlu_keeps_of_eq

theorem enterLosing_keeps : Keeps tidy s (enterLosing p s) := by
  unfold enterLosing
  exact .after onPlu_keeps_of_eq damage_keeps

theorem setDegraded_keeps : Keeps tidy s (setDegraded p s) := raiseIf_keeps.after onPlu_keeps_of_eq

theorem badFrame_keeps : Keeps tidy s (badFrame p s) := by
  have counted : Keeps tidy s (s.onPlu p countCheckError) := onPlu_keeps_of_eq
  exact counted.trans (.ite (fun _ => setDegraded_keeps) fun _ => .refl)

theorem endWindow_keeps : Keeps tidy s (endWindow p s) := onPlu_keeps_of_eq

theorem takeFound_keeps {x : Found} : Keeps tidy s (takeFound p s x) := by
  unfold takeFound
  split
  · exact deliver_keeps
  · exact damage_keeps
  · exact damage_keeps

theorem deliverPayload_keeps {fr : Frame} : Keeps tidy s (deliverPayload p fr s) :=
  .after (.foldl (fun _ _ => takeFound_keeps) _) onPlu_keeps_of_eq

theorem dropPayload_keeps {fr : Frame} : Keeps tidy s (dropPayload p fr s) := by
  unfold dropPayload
  exact .after onPlu_keeps_of_eq damage_keeps

theorem takeWord_keeps {pos : Nat} {w : Word} : Keeps tidy s (takeWord p pos w s) := by
  unfold takeWord
  split
  · exact onPlu_keeps_of_eq
  · next ws _ =>
    have settled : Keeps tidy s (s.onPlu p fun u => { settleCycle s.cfg.settleCount ws u with cycleWords := none }) :=
      onPlu_keeps_of_eq
    exact .ite (fun _ => settled.trans (.ite (fun _ => .refl) fun _ => settledReport_keeps)) fun _ => onPlu_keeps_of_eq

theorem alignedFrameTaken_keeps {fr : Frame} : Keeps tidy s (alignedFrameTaken p fr s) := by
  have judged : Keeps tidy s (s.onPlu p (judgeFrame fr)) := onPlu_keeps_of_eq
  have checked : Keeps tidy s (if fr.good then s.onPlu p (judgeFrame fr) else badFrame p (s.onPlu p (judgeFrame fr))) :=
    .ite (fun _ => judged) fun _ => badFrame_keeps.after judged
  refine checked.trans (.trans (t := if (!fr.good || markerError (s.plu.get p) fr) then _ else _)
    (.ite (fun _ => dropPayload_keeps) fun _ => takeWord_keeps.after deliverPayload_keeps)
    (.ite (fun _ => enterLosing_keeps) fun _ => .refl))

theorem loseLink_keeps : Keeps tidy s (loseLink p s) := linkDownReport_keeps.after onPlu_keeps_of_eq

/-! ### Frames out -/

theorem dropHead_outQueue_le (u : Plu) (t : Turn) : (u.dropHead t).outQueue.length ≤ u.outQueue.length := by
  cases t with
  | data => exact Nat.le_refl _
  | queue => simp [Plu.dropHead]

theorem beginMessage_outQueue (u : Plu) : u.beginMessage.outQueue = u.outQueue := by
  unfold Plu.beginMessage
  split <;> rfl

theorem beginMessage_localPos (u : Plu) : u.beginMessage.localPos = u.localPos := by
  unfold Plu.beginMessage
  split <;> rfl

theorem dropHead_localPos (u : Plu) (t : Turn) : (u.dropHead t).localPos = u.localPos := by
  cases t <;> rfl

/-- R20: messages only leave the queue while a frame is filled, and the position stays. -/
theorem fillFrame_keeps (n room : Nat) (first : Option Nat) (payload : List Byte) (u : Plu) :
    (fillFrame n room first payload u).1.outQueue.length ≤ u.outQueue.length ∧
      (fillFrame n room first payload u).1.localPos = u.localPos := by
  induction n generalizing room first payload u with
  | zero => exact ⟨Nat.le_refl _, rfl⟩
  | succ n ih =>
    have begun := beginMessage_outQueue u
    have place := beginMessage_localPos u
    unfold fillFrame
    split
    · exact ⟨Nat.le_refl _, rfl⟩
    · dsimp only
      split
      · exact ⟨begun ▸ Nat.le_refl _, place⟩
      · next t _ _ =>
        split
        · refine ⟨Nat.le_trans (ih _ _ _ _).1 ?_, (ih _ _ _ _).2.trans ((dropHead_localPos _ t).trans place)⟩
          rw [← begun]
          exact dropHead_outQueue_le _ t
        · exact ⟨begun ▸ Nat.le_refl _, place⟩

/-- R27: the COMPLETIONs of READs join a queue that stays at 192 messages, and the position stays. -/
theorem handReads_keeps (u : Plu) :
    (u.outQueue.length ≤ 192 → u.handReads.outQueue.length ≤ 192) ∧ u.handReads.localPos = u.localPos := by
  unfold Plu.handReads
  refine foldl_keeps (fun v : Plu => (u.outQueue.length ≤ 192 → v.outQueue.length ≤ 192) ∧ v.localPos = u.localPos) _
    (fun v r ⟨hq, hp⟩ => ⟨fun h => Plu.handOver_bounded _ (hq h), ?_⟩) _ _ ⟨id, rfl⟩
  rw [← hp]
  unfold Plu.handOver
  split <;> rfl

/-- A link after it has sent its frame. -/
def Plu.afterSend (view : State) (p : Port) (fillAt : Nat) (u : Plu) : Plu :=
  ((sampleBlock view p u).sendFrame fillAt).handReads

theorem sampleBlock_outQueue (view : State) (p : Port) (u : Plu) : (sampleBlock view p u).outQueue = u.outQueue := by
  unfold sampleBlock
  split <;> rfl

theorem sampleBlock_localPos (view : State) (p : Port) (u : Plu) : (sampleBlock view p u).localPos = u.localPos := by
  unfold sampleBlock
  split <;> rfl

theorem afterSend_queue_bounded {view : State} {fillAt : Nat} {u : Plu} (h : u.outQueue.length ≤ 192) :
    (u.afterSend view p fillAt).outQueue.length ≤ 192 := by
  refine (handReads_keeps _).1 (Nat.le_trans (fillFrame_keeps _ _ _ _ _).1 ?_)
  rwa [sampleBlock_outQueue]

/-- R2: the position moves on by one. -/
theorem afterSend_localPos {view : State} {fillAt : Nat} {u : Plu} :
    (u.afterSend view p fillAt).localPos = nextPos u.localPos := by
  refine (handReads_keeps _).2.trans ?_
  change nextPos (sampleBlock view p u).localPos = nextPos u.localPos
  rw [sampleBlock_localPos]

/-- R2: sending a frame changes the link, the count of free values and the supervisor of its port. -/
theorem sendOn_eq (view : State) (p : Port) (s : State) : ∃ sup,
    sendOn view p s = { s with
      plu := s.plu.set p ((s.plu.get p).afterSend view p s.fillNext), sup := sup,
      fillNext := s.fillNext + Config.payloadBytes } := by
  unfold sendOn stallCount
  dsimp only
  split
  · split
    · exact ⟨_, rfl⟩
    · exact ⟨s.sup, rfl⟩
  · exact ⟨s.sup, rfl⟩

theorem sendFrames_eq (s : State) : ∃ sup fillA fillB,
    sendFrames s = { s with
      plu := ⟨s.plu.a.afterSend s .a fillA, s.plu.b.afterSend s .b fillB⟩, sup := sup,
      fillNext := s.fillNext + Config.payloadBytes + Config.payloadBytes } := by
  obtain ⟨supA, ha⟩ := sendOn_eq s .a s
  obtain ⟨supB, hb⟩ := sendOn_eq s .b (sendOn s .a s)
  rw [ha] at hb
  exact ⟨supB, s.fillNext, s.fillNext + Config.payloadBytes, by rw [sendFrames, ha, hb]; rfl⟩

theorem sendFrames_keeps : Keeps tidy s (sendFrames s) := by
  obtain ⟨sup, fillA, fillB, sent⟩ := sendFrames_eq s
  rw [sent]
  exact {
    pending := rfl
    queues := fun h q => by
      cases q with
      | a => exact afterSend_queue_bounded (h .a)
      | b => exact afterSend_queue_bounded (h .b)
    intents := id
    grants := id
    admission := id
    lost := id
    tags := id
    positions := fun ⟨same, _⟩ => by
      refine ⟨?_, ?_⟩
      · rw [afterSend_localPos, afterSend_localPos, same]
      · rw [afterSend_localPos]
        exact Nat.mod_lt _ (by decide)
    started := id
    epochs := fun _ he hc => ⟨he, hc, BitVec.le_refl _⟩ }

/-! ### The management line -/

theorem whenIdle_keeps {f : State → State} (h : Keeps tidy s (f s)) : Keeps tidy s (whenIdle f s) :=
  .ite (fun _ => h) fun _ => .refl

theorem takeReadEvents_keeps {seq : Byte} : Keeps tidy s (takeReadEvents seq s) :=
  whenIdle_keeps (onMi_keeps.after finish_keeps)

theorem takeDepthIfDue_keeps : Keeps tidy s (takeDepthIfDue p s) :=
  .ite (fun h => takeDepth_keeps (depthDue_le h)) fun _ => .refl

theorem applySettings_keeps {x : Settings} : Keeps tidy s (applySettings x s) := by
  unfold applySettings
  exact onMi_keeps.after (.ite (fun _ => rebuild_keeps) fun _ => .refl)

theorem settingsAct_keeps {before : Settings} : Keeps tidy s (settingsAct before s) := by
  have taken : Keeps tidy s (takeDepthIfDue .b (takeDepthIfDue .a s)) := takeDepthIfDue_keeps.after takeDepthIfDue_keeps
  exact taken.trans (.ite (fun _ => judgeBoth_keeps) fun _ => .refl)

theorem acceptConfig_keeps {seq : Byte} {r : RawConfig} : Keeps tidy s (acceptConfig seq r s) :=
  settingsAct_keeps.after <| takeTicket_keeps.after <| applySettings_keeps.after beginRequest_keeps

theorem takeWriteConfig_keeps {seq : Byte} {r : RawConfig} : Keeps tidy s (takeWriteConfig seq r s) :=
  whenIdle_keeps (.ite (fun _ => finish_keeps) fun _ => acceptConfig_keeps)

theorem takeFencePort_keeps {seq port : Byte} : Keeps tidy s (takeFencePort seq port s) := by
  refine whenIdle_keeps ?_
  split
  · exact finish_keeps
  · exact .ite (fun _ => finish_keeps) fun _ => .ite (fun _ => finish_keeps) fun _ => finish_keeps.after fencePort_keeps

theorem takeClearMap_keeps {seq : Byte} : Keeps tidy s (takeClearMap seq s) := by
  refine whenIdle_keeps (.ite (fun _ => finish_keeps) fun hb => .ite (fun _ => finish_keeps) fun _ => ?_)
  exact .of_started (requestStep_keeps.after beginRequest_keeps) fun _ hs => hb (by simp [hs])

theorem takeMalformed_keeps {bytes : List Byte} : Keeps tidy s (takeMalformed bytes s) := by
  unfold takeMalformed
  split
  · exact .ite (fun _ => whenIdle_keeps finish_keeps) fun _ => .refl
  · exact .refl

/-! ### The drive port -/

theorem prsnGoesLow_keeps : Keeps tidy s (prsnGoesLow s) := by
  have low : Keeps tidy s (s.onDct fun d => { d with prsnLow := true }) := onDct_keeps_of_eq
  refine low.trans (.ite (fun h => attachAttempt_keeps ?_) fun _ => .refl)
  simp only [Bool.and_eq_true, beq_iff_eq] at h
  exact h.1.2

theorem attachEnds_keeps {retry : Timer} (h : s.dct.drive = .attaching) : Keeps tidy s (attachEnds retry s) :=
  setDrive_keeps (by simp [h]) (by simp [h]) nofun nofun

theorem prsnGoesHigh_keeps : Keeps tidy s (prsnGoesHigh s) := by
  have high : Keeps tidy s (s.onDct fun d => { d with prsnLow := false }) := onDct_keeps_of_eq
  refine high.trans (.ite (fun h => attachEnds_keeps (by simp_all)) fun _ => ?_)
  exact .ite (fun h => driveReset_keeps (.inl (by simp_all))) fun _ => .refl

theorem retryReached_keeps (h : s.dct.drive = .absent) : Keeps tidy s (retryReached s) := by
  have stopped : Keeps tidy s (s.onDct fun d => { d with retryTimer := none }) := onDct_keeps_of_eq
  exact stopped.trans (.ite (fun _ => attachAttempt_keeps h) fun _ => .refl)

theorem reattached_keeps {depth : Nat} (h : s.dct.drive = .resetting) (hd : depth ≠ 0) :
    Keeps tidy s (reattached depth s) :=
  driveReady_keeps (by simp [h]) (by simp [h]) rfl (takenDepth_pos hd)

theorem routeReadData_keeps {e : Entry} {offset : BitVec 32} {bytes : List Byte} :
    Keeps tidy s (routeReadData e offset bytes s) := by
  unfold routeReadData
  split
  · exact .ite (fun _ => .refl) fun _ => pushData_keeps
  · exact takeImageBytes_keeps
  · exact .refl

/-! ### Timers -/

theorem testAbsent_keeps : Keeps tidy s (testAbsent p s) := .ite (fun _ => fencePort_keeps) fun _ => .refl

theorem drainExpires_keeps : Keeps tidy s (drainExpires p s) := by
  refine requestAborts_keeps.after (onTc_keeps_of_stage (hs := fun q => ?_))
  rw [PerPort.get_set]
  split
  · next h => rw [h]
  · rfl

/-! ### Every command -/

/-- R114: an entry is found only in a table that has one. -/
theorem entries_ne_nil {d : Dct} {tag : Nat} {e : Entry} (h : d.find tag = some e) : d.entries ≠ [] :=
  List.ne_nil_of_mem (List.mem_of_find?_eq_some h)

/-- The command completes, and what it keeps it keeps of a state that may be STARTING and clean. -/
def Completes (r : Result) (s : State) : Prop := ∃ t, r = .next t ∧ Keeps True s t

theorem Completes.next {t : State} (h : Keeps True s t) : Completes (.next t) s := ⟨t, rfl, h⟩

/-- A command that acts after the internal steps that are due. -/
theorem Completes.settled {t : State} (h : Keeps True (settle s) t) : Completes (.next t) s :=
  .next (settle_keeps_all.trans h)

theorem Completes.settledIf {c : Prop} [Decidable c] {t : State} (h : c → Keeps True (settle s) t) :
    Completes (.next (if c then t else settle s)) s := .settled (.ite h fun _ => .refl)

/-- A command about the entry under a drive tag, when there is one. -/
theorem Completes.entry {tag : Nat} {f : Entry → State} (h : ∀ e, (settle s).dct.find tag = some e →
    Keeps True (settle s) (f e)) :
    Completes (.next (match (settle s).dct.find tag with | some e => f e | none => settle s)) s := by
  split
  · next e he => exact .settled (h e he)
  · exact .settled .refl

/-- Every command but a full reset completes and keeps what the rules promise. -/
theorem exec_completes (c : Instr) (s : State) (hc : isReset c = false) : Completes (exec c s) s := by
  cases c with
  | fullReset m0 m1 => exact nomatch hc
  | restart seq => exact nomatch hc
  | candidateFrame p fr => exact .settled (.ite (fun _ => .refl) fun _ => searchFrame_keeps)
  | alignedFrame p fr => exact .settledIf fun _ => alignedFrameTaken_keeps
  | frameSend => exact .settled sendFrames_keeps
  | tLlExpiry p => exact .settledIf fun _ => loseLink_keeps
  | checkErrorWindowEnd p => exact .settled endWindow_keeps
  | pulseStallLimit p => exact .next (.ite (fun _ => stallLimit_keeps) fun _ => .refl)
  | lengthOutOfRange p h => exact .settled lengthLost_keeps
  | undefinedKind p kind h => exact .settled takeUndefined_keeps
  | read p h ec lba n => exact .settled driveCommand_keeps
  | write p h ec lba n => exact .settled driveCommand_keeps
  | flush p h ec => exact .settled driveCommand_keeps
  | writeData p h offset bytes => exact .settled takeWriteData_keeps
  | enrol p h epoch => exact .settled takeEnrol_keeps
  | park p h => exact .settled takePark_keeps
  | claim p h f n => exact .settled takeClaim_keeps
  | yieldClaim p h id => exact .settled takeYield_keeps
  | keepClaim p h id => exact .settled takeKeep_keeps
  | disclaim p h f n => exact .settled takeDisclaim_keeps
  | setPolicy p h f n policy => exact .settled takeSetPolicy_keeps
  | takeover p h target => exact .settled takeTakeover_keeps
  | mapQuery p h f n => exact .settled takeMapQuery_keeps
  | intentRead p h setId => exact .settled takeIntentRead_keeps
  | intentClear p h setId => exact .settled takeIntentClear_keeps
  | stateQuery p h => exact .settled takeStateQuery_keeps
  | readState seq => exact .settled (whenIdle_keeps finish_keeps)
  | readEvents seq => exact .settled takeReadEvents_keeps
  | readConfig seq => exact .settled (whenIdle_keeps finish_keeps)
  | writeConfig seq record => exact .settled takeWriteConfig_keeps
  | fencePort seq port => exact .settled takeFencePort_keeps
  | clearMap seq => exact .settled takeClearMap_keeps
  | malformedRecord bytes => exact .settled takeMalformed_keeps
  | dvPrsnLow => exact .settled prsnGoesLow_keeps
  | dvPrsnHigh => exact .settled prsnGoesHigh_keeps
  | attachAnswerTimeExpiry => exact .settledIf fun h => attachEnds_keeps (by simp_all)
  | attachRetryTimeExpiry => exact .settledIf fun h => retryReached_keeps (by simp_all)
  | identifyAnswer capacity block depth =>
    exact .settledIf fun h => .ite (fun hs => firstAttach_keeps h (by simp_all [driveSupported]))
      fun _ => driveLost_keeps (by simp [h])
  | reattachIdentifyAnswer capacity block depth =>
    refine .settledIf fun h => .ite (fun hs => reattached_keeps (by simp_all) (by simp_all)) fun _ => driveLost_keeps ?_
    simp_all
  | reattachTimeExpiry =>
    exact .settledIf fun h => .ite (fun _ => reattachAttempt_keeps) fun _ => driveLost_keeps (by simp_all)
  | driveCompletion tag status detail => exact .entry fun e _ => endEntry_keeps
  | driveReadData tag offset bytes => exact .entry fun e _ => routeReadData_keeps
  | abortAnswer tag done => exact .entry fun e _ => .ite (fun _ => endEntry_keeps) fun _ => .refl
  | commandTimerExpiry tag =>
    exact .entry fun e _ => .ite (fun _ => sendDrive_keeps.after (changeEntry_keeps fun _ => rfl)) fun _ => .refl
  | abortTimerExpiry tag =>
    exact .entry fun e he => .ite (fun _ => driveReset_keeps (.inr (entries_ne_nil he))) fun _ => .refl
  | confirmTimerExpiry p => exact .settledIf fun _ => judge_keeps.after onSup_keeps
  | parkTimerExpiry p =>
    exact .next (settleFor_keeps_all.trans (.ite (fun _ => fencePort_keeps) fun _ => .refl))
  | startWindowExpiry =>
    exact .settledIf fun _ => testAbsent_keeps.after (testAbsent_keeps.after (aside_keeps _ _ _ _))
  | claimDeadlineExpiry id =>
    unfold exec execClaimDeadlineExpiry
    dsimp only
    split
    · exact .settledIf fun _ => endClaim_keeps
    · exact .settled .refl
  | drainTimerExpiry p => exact .settledIf fun _ => drainExpires_keeps
  | arbiterDecision => exact .settled arbiterDecides_keeps
  | shareWindowEnd => exact .next (.ite (fun _ => startShareWindow_keeps) fun _ => .refl)
  | queueDepthTaken p => exact .next (.ite (fun h => takeDepth_keeps (depthDue_le h)) fun _ => .refl)
  | bridgeCommandIssue =>
    unfold exec execBridgeCommandIssue
    dsimp only
    split
    · next h => exact .next (issueBridge_keeps h)
    · exact .next .refl
  | imageCycleBegin => exact .next (.ite (fun _ => beginCycle_keeps) fun _ => .refl)
  | quiesceMetCommit step =>
    unfold exec execQuiesceMetCommit
    dsimp only
    split
    · next h =>
      exact .next (.ite (fun _ => .of_started quiesceEnds_keeps fun hc =>
        hc.started_of_step (List.mem_of_find?_eq_some h)) fun _ => .refl)
    · exact .next .refl
  | waitingStepAdmitted => exact .next (.ite (fun _ => admitWaiting_keeps) fun _ => .refl)
  | ticketServed => exact .next (.ite (fun _ => .refl) fun _ => serveTickets_keeps)
  | portClear p => exact .next (.ite (fun _ => reportClear_keeps) fun _ => .refl)
  | queueEmptyReport p => exact .next (.ite (fun _ => reportEmpty_keeps) fun _ => .refl)

/-! ### A full reset -/

/-- R175: what the rules promise of a state right after a full reset. -/
structure SoundAfterReset (t : State) : Prop where
  queues : QueuesBounded t
  intents : IntentsBounded t
  grants : GrantsCounted t
  admission : AdmissionBounded t
  lost : LostIsHalted t
  tags : TagsSound t
  positions : PositionsAgree t
  clean : StartingClean t
  epochs : EpochsBounded t

theorem cleared_sound (low m0 m1 : Bool) (n : Nat) (cs : List Instr) :
    SoundAfterReset (State.cleared low m0 m1 n cs) where
  queues q := by cases q <;> exact Nat.zero_le _
  intents := Nat.zero_le _
  grants := rfl
  admission q := by cases q <;> exact ⟨Nat.le_refl _, fun _ => rfl⟩
  lost := ⟨⟨nofun, nofun⟩, fun _ => rfl⟩
  tags := ⟨fun _ => rfl, nofun, List.nodup_nil, nofun, fun _ => nofun⟩
  positions := ⟨rfl, Nat.succ_pos _⟩
  clean _ := ⟨rfl, rfl, rfl, fun q => by cases q <;> exact ⟨nofun, rfl⟩⟩
  epochs := nofun

/-- What is kept of a sound STARTING state is sound. -/
theorem SoundAfterReset.keeps {t u : State} (h : SoundAfterReset t) (k : Keeps True t u) : SoundAfterReset u where
  queues := k.queues h.queues
  intents := k.intents h.intents
  grants := k.grants h.grants
  admission := k.admission h.admission
  lost := k.lost h.lost
  tags := k.tags h.tags
  positions := k.positions h.positions
  clean := (k.epochs (fun _ => trivial) h.epochs h.clean).2.1
  epochs := (k.epochs (fun _ => trivial) h.epochs h.clean).1

theorem fullReset_sound (m0 m1 : Bool) (s : State) :
    SoundAfterReset (fullReset m0 m1 s) ∧ (fullReset m0 m1 s).pending = s.pending := by
  have cleared := cleared_sound s.dct.prsnLow m0 m1 s.fillNext s.pending
  have attach : Keeps True _ (attachAttempt (.cleared s.dct.prsnLow m0 m1 s.fillNext s.pending)) := attachAttempt_keeps rfl
  unfold fullReset
  dsimp only
  split
  · exact ⟨cleared.keeps attach, attach.pending⟩
  · exact ⟨cleared, rfl⟩

theorem exec_reset (c : Instr) (s : State) (hc : isReset c = true) :
    ∃ m0 m1, exec c s = .next (fullReset m0 m1 s) := by
  cases c with
  | fullReset m0 m1 => exact ⟨m0, m1, rfl⟩
  | restart seq => exact ⟨_, _, rfl⟩
  | _ => exact nomatch hc

/-- What a command makes: a sound state right after a reset, or one that keeps what the rules promise. -/
theorem exec_next {c : Instr} {s t : State} (h : exec c s = .next t) : SoundAfterReset t ∨ Keeps True s t := by
  cases hc : isReset c with
  | true =>
    obtain ⟨m0, m1, ht⟩ := exec_reset c s hc
    obtain rfl := Host.Outcome.next.inj (h.symm.trans ht)
    exact .inl (fullReset_sound m0 m1 s).1
  | false =>
    obtain ⟨u, hu, hk⟩ := exec_completes c s hc
    obtain rfl := Host.Outcome.next.inj (h.symm.trans hu)
    exact .inr hk

/-- An invariant that does not look at the queue of commands, that a full reset sets up and that `Keeps` passes on, is kept by
every step. -/
theorem step_keeps {P : State → Prop} (hp : ∀ s cs, P s → P { s with pending := cs }) (hr : ∀ t, SoundAfterReset t → P t)
    (hk : ∀ s t, Keeps True s t → P s → P t) {s t : State} (hs : P s) (h : step s = .next t) : P t := by
  unfold step at h
  split at h
  · exact Host.Outcome.next.inj h ▸ hs
  · next c rest _ =>
    rcases exec_next h with reset | kept
    · exact hr t reset
    · exact hk _ t kept (hp s rest hs)

/-! ### The statements -/

/-- Settles O55: handing over stops at 192 messages, and a set joins the list only after the oldest of two has left it. -/
theorem outboundAndIntentsBounded : Obligations.OutboundAndIntentsBounded :=
  ⟨fun _ _ => step_keeps (fun _ _ => id) (fun _ => (·.queues)) fun _ _ => (·.queues),
    fun _ _ => step_keeps (fun _ _ => id) (fun _ => (·.intents)) fun _ _ => (·.intents)⟩

/-- Settles O56: a grant counts at its port and in the window; a record joins a queue only in SERVICE and with room, and
HALTED empties both queues in the action that ends SERVICE. -/
theorem admissionStaysSound : Obligations.AdmissionStaysSound :=
  ⟨fun _ _ => step_keeps (fun _ _ => id) (fun _ => (·.grants)) fun _ _ => (·.grants),
    fun _ _ => step_keeps (fun _ _ => id) (fun _ => (·.admission)) fun _ _ => (·.admission)⟩

/-- Settles O57: LOST and HALTED are entered in one action, from a drive that is not READY. -/
theorem lostStaysHalted : Obligations.LostStaysHalted :=
  fun _ _ => step_keeps (fun _ _ => id) (fun _ => (·.lost)) fun _ _ => (·.lost)

/-- Settles O58: an entry joins the table only under a free tag on its origin's side of D - 1, and D changes only while
the table is empty. -/
theorem tagsStaySound : Obligations.TagsStaySound :=
  fun _ _ => step_keeps (fun _ _ => id) (fun _ => (·.tags)) fun _ _ => (·.tags)

/-- Settles O59: what makes the map epoch move needs a started bridge, which a clean STARTING state keeps out of reach, or is
the end of the image READ, which finds it 0. -/
theorem epochsNeverFall : Obligations.EpochsNeverFall := by
  intro c s t he hc h
  cases hr : isReset c with
  | true =>
    obtain ⟨m0, m1, ht⟩ := exec_reset c s hr
    obtain rfl := Host.Outcome.next.inj (h.symm.trans ht)
    have sound := (fullReset_sound m0 m1 s).1
    exact ⟨sound.epochs, sound.clean, nofun⟩
  | false =>
    obtain ⟨u, hu, hk⟩ := exec_completes c s hr
    obtain rfl := Host.Outcome.next.inj (h.symm.trans hu)
    obtain ⟨he', hc', hle⟩ := hk.epochs (fun _ => trivial) he hc
    exact ⟨he', hc', fun _ => hle⟩

/-- Settles O60: both links move on together, at FRAME_SEND alone. -/
theorem positionsStayEqual : Obligations.PositionsStayEqual :=
  fun _ _ => step_keeps (fun _ _ => id) (fun _ => (·.positions)) fun _ _ => (·.positions)

/-- Settles O2: a full reset keeps the queue of commands, and so does every other command. -/
theorem everyCommandCompletes : Obligations.EveryCommandCompletes := by
  intro c s
  cases hc : isReset c with
  | true =>
    obtain ⟨m0, m1, ht⟩ := exec_reset c s hc
    exact ⟨_, ht, (fullReset_sound m0 m1 s).2⟩
  | false =>
    obtain ⟨t, ht, hk⟩ := exec_completes c s hc
    exact ⟨t, ht, hk.pending⟩

/-- Settles O4: the state after reset is a cleared one. -/
theorem soundAtReset : Obligations.SoundAtReset := by
  have sound : SoundAfterReset State.reset := cleared_sound false false false 0 []
  exact ⟨sound.queues, sound.intents, sound.grants, sound.admission, sound.lost, sound.tags, sound.clean, sound.epochs,
    sound.positions⟩

/-- Settles O1, by the two cases of the queue of commands. -/
theorem stepRunsFrontCommand : Obligations.StepRunsFrontCommand :=
  fun s => ⟨fun h => by simp only [step, h], fun c rest h => by simp only [step, h]⟩

end Sys2Proof.Machine
end

section
/-! Proofs about a full reset, share windows and queue depths, and extent geometry. -/

namespace Sys2Proof.Machine

/- Declarations are elaborated one after another, which keeps the check within its memory. -/
set_option Elab.async false

/-! ### A full reset -/

theorem fullReset_absent {m0 m1 : Bool} {s : State} (h : s.dct.prsnLow = false) :
    fullReset m0 m1 s = .cleared false m0 m1 s.fillNext s.pending := by
  simp [fullReset, h]

theorem fullReset_seated {m0 m1 : Bool} {s : State} (h : s.dct.prsnLow = true) :
    fullReset m0 m1 s = attachAttempt (.cleared true m0 m1 s.fillNext s.pending) := by
  simp [fullReset, h]

/-- R175: every block but the drive command table stands as it is cleared, a drive seated or not. -/
theorem fullReset_eq (m0 m1 : Bool) (s : State) : ∃ d : Dct,
    fullReset m0 m1 s = { State.cleared s.dct.prsnLow m0 m1 s.fillNext s.pending with dct := d } ∧
      d.entries = [] ∧ d.issueCount = 0 ∧ d.firstAttach = none ∧ d.depth = 0 ∧ d.clearReq = ⟨false, false⟩ ∧
      d.prsnLow = s.dct.prsnLow ∧ (s.dct.prsnLow = false → d.drive = .absent ∧ d.out = []) ∧
      (s.dct.prsnLow = true → d.drive = .attaching ∧ d.attachTimer = some 10 ∧ d.out = [.reset, .identify]) := by
  cases h : s.dct.prsnLow with
  | false => exact ⟨_, fullReset_absent h, rfl, rfl, rfl, rfl, rfl, rfl, fun _ => ⟨rfl, rfl⟩, nofun⟩
  | true => exact ⟨_, fullReset_seated h, rfl, rfl, rfl, rfl, rfl, rfl, nofun, fun _ => ⟨rfl, rfl, rfl⟩⟩

/-- Settles O3: a full reset clears every block (`fullReset_eq`), whose reset values are read off. -/
theorem fullResetSetsEveryBlock : Obligations.FullResetSetsEveryBlock := by
  intro s m0 m1
  obtain ⟨d, reset, entries, issues, attach, depth, requests, low, absent, seated⟩ := fullReset_eq m0 m1 s
  have run : exec (.fullReset m0 m1) s = .next _ := congrArg Host.Outcome.next reset
  refine ⟨⟨_, run, rfl, rfl, fun p => ?_, ?_, ⟨entries, issues, attach, depth, rfl, rfl, rfl, rfl⟩, ?_, ?_, low,
    absent, seated⟩, fun _ => rfl⟩
  · have request : d.clearReq.get p = false := by rw [requests]; cases p <;> rfl
    cases p <;>
      exact ⟨⟨rfl, rfl, rfl, rfl, rfl, rfl, rfl, rfl, rfl, rfl⟩, ⟨rfl, rfl, rfl, rfl, rfl, rfl, rfl, rfl⟩,
        ⟨rfl, rfl, rfl, rfl, rfl, rfl, rfl, rfl⟩, rfl, rfl, rfl, request, rfl, rfl⟩
  · exact ⟨rfl, rfl, rfl, rfl, rfl, rfl, rfl, rfl, rfl, rfl⟩
  · exact ⟨rfl, rfl, rfl, rfl, rfl, rfl, rfl, rfl⟩
  · exact ⟨rfl, rfl, rfl, rfl, rfl, rfl⟩

/-! ### Share windows and queue depths -/

theorem guaranteeNow_eq (s : State) (p : Port) :
    s.guaranteeNow p = if s.port p = .enrolled ∨ s.port p = .parking then s.cfg.guar.get p else 0 := by
  simp only [State.guaranteeNow, Bool.or_eq_true, decide_eq_true_eq]

theorem windowOver_of_some {a : Au} {x : ShareWindow} (h : a.window = some x) : a.windowOver = decide (x.length ≤ a.w) := by
  simp only [Au.windowOver, h]

theorem takeDepth_eq (p : Port) (s : State) :
    takeDepth p s = { s with au := { s.au with depth := s.au.depth.set p s.cfg.depth } } := rfl

/-- A queue that already has the configured depth would take it without a change. -/
theorem takeDepth_of_eq {p : Port} {s : State} (h : s.au.depth.get p = s.cfg.depth) : takeDepth p s = s := by
  rw [takeDepth_eq, ← h, PerPort.set_get]

/-- Settles O17, by whether the window is over, and by what makes a new depth due. -/
theorem windowAndDepthTaken : Obligations.WindowAndDepthTaken := by
  intro s p
  refine ⟨fun x hx hw => ?_, fun x hx hw => ?_, fun hd hl => ?_, fun hl => ?_⟩
  · have ended : s.au.windowOver = true := by simpa [windowOver_of_some hx] using hw
    simp only [exec, execShareWindowEnd, ended, if_true, startShareWindow, State.onAu, guaranteeNow_eq]
    rfl
  · have going : s.au.windowOver = false := by simpa [windowOver_of_some hx] using hw
    simp only [exec, execShareWindowEnd, going]
    rfl
  · rw [← takeDepth_eq]
    by_cases same : s.au.depth.get p = s.cfg.depth
    · rw [takeDepth_of_eq same]
      simp only [exec, execQueueDepthTaken, takeDepth_of_eq same, ite_self]
    · have due : s.depthDue p = true := by simp [State.depthDue, hd, hl, same]
      simp only [exec, execQueueDepthTaken, due, if_true]
  · have notDue : s.depthDue p = false := by simp [State.depthDue, hl]
    simp only [exec, execQueueDepthTaken, notDue]
    rfl

/-! ### Extent geometry -/

/-- R39: the search finds the least shift from its start on whose 1024 extents hold V, when it may go far enough. -/
theorem shiftFrom_spec {v : Nat} (n k j : Nat) (hj : v ≤ 1024 * 2 ^ j) (hkj : k ≤ j) (hn : j ≤ n + k) :
    k ≤ shiftFrom n v k ∧ v ≤ 1024 * 2 ^ shiftFrom n v k ∧ ∀ i, k ≤ i → v ≤ 1024 * 2 ^ i → shiftFrom n v k ≤ i := by
  induction n generalizing k with
  | zero =>
    obtain rfl : k = j := by omega
    exact ⟨Nat.le_refl _, hj, fun i hi _ => hi⟩
  | succ n ih =>
    unfold shiftFrom
    split
    · next fits => exact ⟨Nat.le_refl _, fits, fun i hi _ => hi⟩
    · next small =>
      have beyond : ∀ i, k ≤ i → v ≤ 1024 * 2 ^ i → k + 1 ≤ i := fun i hi hv => by
        rcases Nat.eq_or_lt_of_le hi with rfl | h
        · exact absurd hv small
        · exact h
      obtain ⟨ge, fits, least⟩ := ih (k + 1) (beyond j hkj hj) (by omega)
      exact ⟨by omega, fits, fun i hi hv => least i (beyond i hi hv) hv⟩

/-- R39: a supported V fits 1024 extents at shift 30. -/
theorem shiftOf_spec {v kReq : Nat} (hv : v ≤ 2 ^ 40) (hk : kReq ≤ 30) :
    kReq ≤ shiftOf v kReq ∧ v ≤ 1024 * 2 ^ shiftOf v kReq ∧
      ∀ i, kReq ≤ i → v ≤ 1024 * 2 ^ i → shiftOf v kReq ≤ i :=
  shiftFrom_spec 30 kReq 30 (by simpa using hv) hk (by omega)

/-- R40: E extents of 2^k blocks cover V, the last not empty. -/
theorem extentsOf_spec {v k : Nat} (hv : 1 ≤ v) :
    1 ≤ extentsOf v k ∧ (extentsOf v k - 1) * 2 ^ k < v ∧ v ≤ extentsOf v k * 2 ^ k := by
  have pos : 1 ≤ extentsOf v k := (lt_extentsOf_iff v k 0).mpr (by omega)
  have last : (extentsOf v k - 1) * 2 ^ k < v := (lt_extentsOf_iff v k _).mp (by omega)
  have cover : ¬ extentsOf v k * 2 ^ k < v := fun h => Nat.lt_irrefl _ ((lt_extentsOf_iff v k _).mpr h)
  exact ⟨pos, last, Nat.le_of_not_lt cover⟩

/-- Settles O51: the search of R39 ends by 30, and E is the ceiling of R40. -/
theorem geometryExact : Obligations.GeometryExact := by
  intro v kReq hv hv' _ hk
  obtain ⟨ge, fits, least⟩ := shiftOf_spec hv' hk
  obtain ⟨pos, last, cover⟩ := extentsOf_spec (v := v) (k := shiftOf v kReq) (by omega)
  have count : (extentsOf v (shiftOf v kReq) - 1) * 2 ^ shiftOf v kReq < 1024 * 2 ^ shiftOf v kReq :=
    Nat.lt_of_lt_of_le last fits
  have few : extentsOf v (shiftOf v kReq) - 1 < 1024 := Nat.lt_of_mul_lt_mul_right count
  exact ⟨ge, least 30 hk (by simpa using hv'), fits, least, pos, by omega, last, cover⟩

end Sys2Proof.Machine
end

section
/-! Proofs about the links: the outbound queue and its frames, the search for alignment, frames judged in ALIGNED, and how
suspicion begins. -/

namespace Sys2Proof.Machine

/- Declarations are elaborated one after another, which keeps the check within its memory. -/
set_option Elab.async false

/-! ### Updates of one link after another -/

theorem State.onPlu_onPlu (s : State) (p : Port) (f g : Plu → Plu) :
    (s.onPlu p f).onPlu p g = s.onPlu p fun u => g (f u) := by
  simp only [State.onPlu, PerPort.get_set_self, PerPort.set_set]

theorem State.onPlu_self (s : State) (p : Port) : (s.onPlu p fun u => u) = s := by
  simp only [State.onPlu, PerPort.set_get]

theorem State.onPlu_get (s : State) (p : Port) (f : Plu → Plu) : (s.onPlu p f).plu.get p = f (s.plu.get p) := by
  rw [State.onPlu_plu, PerPort.get_set_self]

/-- An update of a link that changes nothing there changes nothing. -/
theorem State.onPlu_of_eq {s : State} {p : Port} {f : Plu → Plu} (h : f (s.plu.get p) = s.plu.get p) : s.onPlu p f = s :=
  (State.onPlu_congr h).trans (s.onPlu_self p)

theorem raiseIf_onPlu (c : Bool) (e : Event) (s : State) (p : Port) (f : Plu → Plu) :
    (raiseIf c e s).onPlu p f = raiseIf c e (s.onPlu p f) := by
  unfold raiseIf
  split <;> rfl

/-! ### The outbound queue -/

theorem handOver_of_room {p : Port} {m : OutMsg} {s : State} (h : (s.plu.get p).outQueue.length < 192) :
    handOver p m s = s.onPlu p fun u => { u with outQueue := u.outQueue ++ [m] } :=
  State.onPlu_congr (Plu.handOver_room m h)

theorem handOver_of_full {p : Port} {m : OutMsg} {s : State} (h : 192 ≤ (s.plu.get p).outQueue.length) :
    handOver p m s = s.onPlu p fun u => { u with outDiscard := satSucc u.outDiscard } :=
  State.onPlu_congr (Plu.handOver_full m (Nat.not_lt.mpr h))

theorem satSucc_word (x : Word) : satSucc x = if x = 65535#16 then 65535#16 else x + 1 := by
  have top : BitVec.allOnes 16 = 65535#16 := rfl
  unfold satSucc
  rw [top]
  split
  · next h => exact h
  · rfl

/-! ### Filling a frame -/

theorem beginMessage_idle {u : Plu} (ht : u.tx = none) (hd : u.dataList = []) (hq : u.outQueue = []) :
    u.beginMessage = u := by
  simp [Plu.beginMessage, Plu.chooseTurn, ht, hd, hq]

theorem beginMessage_queue {u : Plu} (ht : u.tx = none) (hd : u.dataList = []) (hq : u.outQueue ≠ []) :
    u.beginMessage = { u with tx := some (.queue, 0) } := by
  have data : u.dataList.isEmpty = true := by simpa using hd
  have queue : u.outQueue.isEmpty = false := by simpa using hq
  unfold Plu.beginMessage Plu.chooseTurn
  rw [ht, data, queue]

theorem beginMessage_data {u : Plu} (ht : u.tx = none) (hd : u.dataList ≠ []) (hq : u.outQueue = []) :
    u.beginMessage = { u with tx := some (.data, 0) } := by
  have data : u.dataList.isEmpty = false := by simpa using hd
  have queue : u.outQueue.isEmpty = true := by simpa using hq
  unfold Plu.beginMessage Plu.chooseTurn
  rw [ht, data, queue]

theorem beginMessage_both {u : Plu} (ht : u.tx = none) (hd : u.dataList ≠ []) (hq : u.outQueue ≠ []) :
    u.beginMessage =
      { u with tx := some (u.turn, 0), turn := match u.turn with | .data => .queue | .queue => .data } := by
  have data : u.dataList.isEmpty = false := by simpa using hd
  have queue : u.outQueue.isEmpty = false := by simpa using hq
  unfold Plu.beginMessage Plu.chooseTurn
  rw [ht, data, queue] <;> rfl

theorem fillFrame_idle {n room : Nat} {first : Option Nat} {payload : List Byte} {u : Plu} (ht : u.tx = none)
    (hd : u.dataList = []) (hq : u.outQueue = []) :
    fillFrame n room first payload u = (u, first, payload) := by
  cases n with
  | zero => rfl
  | succ n =>
    unfold fillFrame
    simp [beginMessage_idle ht hd hq, ht]

/-- R20: one queued message that fits the frame is placed whole, at the start, and leaves its list. -/
theorem fillFrame_single {n room : Nat} {u : Plu} {m : OutMsg} (ht : u.tx = none) (hd : u.dataList = [])
    (hq : u.outQueue = [m]) (hr : 0 < room) (hm : m.bytes.length ≤ room) :
    fillFrame (n + 1) room none [] u = ({ u with outQueue := [], tx := none }, some 0, m.bytes) := by
  have begun := beginMessage_queue ht hd (by simp [hq])
  have bytes : ({ u with tx := some (.queue, 0) } : Plu).headBytes .queue = m.bytes := by simp [Plu.headBytes, hq]
  have left : ({ u with tx := some (.queue, 0) } : Plu).dropHead .queue = { u with outQueue := [], tx := none } := by
    simp [Plu.dropHead, hq]
  unfold fillFrame
  rw [if_neg (by omega)]
  simp only [begun, bytes, left, List.drop_zero, if_true, hm, List.nil_append, List.length_nil]
  exact fillFrame_idle rfl hd rfl

/-- Filling a frame changes the two lists, the message in progress and the turn flag alone. -/
theorem fillFrame_eq (n room : Nat) (first : Option Nat) (payload : List Byte) (u : Plu) : ∃ queue data tx turn,
    (fillFrame n room first payload u).1 = { u with outQueue := queue, dataList := data, tx := tx, turn := turn } := by
  have begun : ∀ u : Plu, ∃ tx turn, u.beginMessage = { u with tx := tx, turn := turn } := fun u => by
    unfold Plu.beginMessage
    split
    · exact ⟨_, _, rfl⟩
    · exact ⟨u.tx, u.turn, rfl⟩
  have dropped : ∀ (u : Plu) (t : Turn), ∃ queue data, u.dropHead t = { u with outQueue := queue, dataList := data, tx := none } :=
    fun u t => by cases t <;> exact ⟨_, _, rfl⟩
  induction n generalizing room first payload u with
  | zero => exact ⟨_, _, _, _, rfl⟩
  | succ n ih =>
    obtain ⟨tx, turn, begin⟩ := begun u
    unfold fillFrame
    split
    · exact ⟨_, _, _, _, rfl⟩
    · dsimp only
      split
      · exact ⟨_, _, _, _, begin⟩
      · next t _ _ =>
        split
        · obtain ⟨queue, data, drop⟩ := dropped u.beginMessage t
          obtain ⟨queue', data', tx', turn', rest⟩ := ih _ _ _ (u.beginMessage.dropHead t)
          refine ⟨queue', data', tx', turn', rest.trans ?_⟩
          rw [drop, begin]
        · rw [begin]
          exact ⟨_, _, _, _, rfl⟩

/-- R27: handing over COMPLETIONs changes the queue, its count of discards and what waits for READ DATA alone. -/
theorem handReads_eq (u : Plu) : ∃ queue discard waiting,
    u.handReads = { u with outQueue := queue, outDiscard := discard, readDone := waiting } := by
  unfold Plu.handReads
  refine foldl_keeps (fun v : Plu => ∃ queue discard waiting,
    v = { u with outQueue := queue, outDiscard := discard, readDone := waiting }) _ ?_ _ _ ⟨_, _, _, rfl⟩
  rintro v r ⟨queue, discard, waiting, rfl⟩
  unfold Plu.handOver
  split <;> exact ⟨_, _, _, rfl⟩

theorem handReads_of_nil {u : Plu} (h : u.readDone = []) : u.handReads = u := by
  cases u
  subst h
  rfl

/-- The frame that a link sends, of the link after it has sampled its status block. -/
def Plu.frameOf (fillAt : Nat) (u : Plu) : OutFrame :=
  ⟨u.localPos, true, (fillFrame 1024 1024 none [] u).2.1, (fillFrame 1024 1024 none [] u).2.2, fillAt,
    u.txBlock.getD u.localPos 0⟩

theorem fillFrame_result_localPos (n room : Nat) (first : Option Nat) (payload : List Byte) (u : Plu) :
    (fillFrame n room first payload u).1.localPos = u.localPos := (fillFrame_keeps n room first payload u).2

/-- R2, R18: what sending a frame leaves in the link. -/
theorem afterSend_spec (view : State) (p : Port) (fillAt : Nat) (u : Plu) :
    (u.afterSend view p fillAt).lastFrame = some ((sampleBlock view p u).frameOf fillAt) ∧
      (u.afterSend view p fillAt).txBlock = (sampleBlock view p u).txBlock ∧
      (u.afterSend view p fillAt).align = u.align ∧ (u.afterSend view p fillAt).settled = u.settled := by
  obtain ⟨queue, discard, waiting, hand⟩ := handReads_eq ((sampleBlock view p u).sendFrame fillAt)
  obtain ⟨queue', data, tx, turn, fill⟩ := fillFrame_eq 1024 1024 none [] (sampleBlock view p u)
  have sample : (sampleBlock view p u).align = u.align ∧ (sampleBlock view p u).settled = u.settled := by
    unfold sampleBlock
    split <;> exact ⟨rfl, rfl⟩
  unfold Plu.afterSend
  rw [hand]
  unfold Plu.sendFrame Config.payloadBytes
  dsimp only
  rw [fill]
  exact ⟨rfl, rfl, sample.1, sample.2⟩

/-- R131: the supervisor of a port at the end of a cycle of the part's own clock. -/
def stallCounted (s : State) (p : Port) : Supervisor :=
  if (s.plu.get p).localPos = 7 ∧ s.port p = .enrolled ∧ (s.plu.get p).align ≠ .down ∧
      (s.plu.get p).settled.health ≠ .leaving then
    { s.sup.get p with stall := (s.sup.get p).stall + 1, stallDue := s.cfg.stallLimit ≤ (s.sup.get p).stall + 1 }
  else s.sup.get p

/-- R2, R131: what one port's frame does. -/
theorem sendOn_spec (view : State) (p : Port) (s : State) :
    sendOn view p s = { s with
      plu := s.plu.set p ((s.plu.get p).afterSend view p s.fillNext), sup := s.sup.set p (stallCounted s p),
      fillNext := s.fillNext + 1024 } := by
  obtain ⟨-, -, align, settled⟩ := afterSend_spec view p s.fillNext (s.plu.get p)
  have quiet : ∀ t : State, t = { s with
      plu := s.plu.set p ((s.plu.get p).afterSend view p s.fillNext), sup := s.sup.set p (s.sup.get p),
      fillNext := s.fillNext + 1024 } →
      t = { s with
        plu := s.plu.set p ((s.plu.get p).afterSend view p s.fillNext), fillNext := s.fillNext + 1024 } := by
    rintro t rfl
    rw [PerPort.set_get]
  unfold sendOn stallCounted
  dsimp only
  by_cases cycle : (s.plu.get p).localPos = 7
  · rw [if_pos (by simpa using cycle)]
    unfold stallCount
    by_cases counted : s.port p = .enrolled ∧ (s.plu.get p).align ≠ .down ∧ (s.plu.get p).settled.health ≠ .leaving
    · rw [if_pos, if_pos ⟨cycle, counted⟩]
      · rfl
      · obtain ⟨enrolled, up, staying⟩ := counted
        unfold Plu.afterSend at align settled
        simpa [State.port, State.linkUp, State.onPlu, align, settled] using ⟨⟨enrolled, up⟩, staying⟩
    · rw [if_neg, if_neg fun h => counted h.2, PerPort.set_get]
      · rfl
      · intro h
        unfold Plu.afterSend at align settled
        simp [State.port, State.linkUp, State.onPlu, align, settled] at h
        exact counted ⟨h.1.1, h.1.2, h.2⟩
  · rw [if_neg (by simpa using cycle), if_neg fun h => cycle h.1, PerPort.set_get]
    rfl

theorem stallCounted_of_not_end {s : State} {p : Port} (h : (s.plu.get p).localPos ≠ 7) : stallCounted s p = s.sup.get p :=
  if_neg fun hc => h hc.1

/-- R2, R18, R131: what FRAME_SEND does. -/
theorem sendFrames_spec (s : State) :
    sendFrames s = { s with
      plu := ⟨s.plu.a.afterSend s .a s.fillNext, s.plu.b.afterSend s .b (s.fillNext + 1024)⟩,
      sup := ⟨stallCounted s .a, stallCounted s .b⟩, fillNext := s.fillNext + 1024 + 1024 } := by
  rw [sendFrames, sendOn_spec, sendOn_spec]
  rfl

theorem sendFrames_port (s : State) (p : Port) : ∃ fillAt,
    (sendFrames s).plu.get p = (s.plu.get p).afterSend s p fillAt ∧ (sendFrames s).sup.get p = stallCounted s p := by
  rw [sendFrames_spec]
  cases p
  · exact ⟨_, rfl, rfl⟩
  · exact ⟨_, rfl, rfl⟩

theorem exec_frameSend_of_quiet {s : State} (hq : Quiet s) : exec .frameSend s = .next (sendFrames s) := by
  have arm : exec .frameSend s = .next (sendFrames (settle s)) := rfl
  rw [arm, settle_of_quiet hq]

/-- R20: a link with one queued message that fits a frame sends it whole, and its queue is then empty. -/
theorem afterSend_single {view : State} {p : Port} {fillAt : Nat} {u : Plu} {m : OutMsg} (ht : u.tx = none)
    (hd : u.dataList = []) (hq : u.outQueue = [m]) (hm : m.bytes.length ≤ 1024) (hr : u.readDone = []) :
    (u.afterSend view p fillAt).outQueue = [] ∧ (u.afterSend view p fillAt).tx = none ∧
      ∃ f, (u.afterSend view p fillAt).lastFrame = some f ∧ f.payload = m.bytes ∧ f.firstStart = some 0 := by
  have sample : sampleBlock view p u = { u with txBlock := (sampleBlock view p u).txBlock } := by
    unfold sampleBlock
    split <;> rfl
  have fill : fillFrame 1024 1024 none [] (sampleBlock view p u) =
      ({ sampleBlock view p u with outQueue := [], tx := none }, some 0, m.bytes) := by
    rw [sample]
    exact fillFrame_single ht hd hq (by decide) hm
  unfold Plu.afterSend Plu.sendFrame Config.payloadBytes
  rw [fill, handReads_of_nil (by rw [sample]; exact hr)]
  exact ⟨rfl, rfl, _, rfl, rfl, rfl⟩

/-- Settles O5: the queue takes a message while it has room, and the lists and the turn flag choose the next. -/
theorem outboundQueueAndTurn : Obligations.OutboundQueueAndTurn := by
  refine ⟨fun p m s => ⟨handOver_of_room, fun h => ?_⟩, fun u ht => ⟨fun hd hq hturn => ?_, fun hd hq hturn => ?_,
    fun hd hq => beginMessage_data ht hd hq, fun hd hq => beginMessage_queue ht hd hq, fun hd hq => beginMessage_idle ht hd hq⟩,
    fun s p m hs ht hd hq hm hr => ?_⟩
  · rw [handOver_of_full h]
    exact State.onPlu_congr (by simp only [satSucc_word])
  · rw [beginMessage_both ht hd hq, hturn]
  · rw [beginMessage_both ht hd hq, hturn]
  · obtain ⟨fillAt, link, -⟩ := sendFrames_port s p
    refine ⟨_, exec_frameSend_of_quiet hs, ?_⟩
    rw [link]
    exact afterSend_single ht hd hq hm hr

/-- Settles O10: a link sends `Plu.frameOf` of itself after the sample of R18 (`afterSend_spec`). -/
theorem frameSent : Obligations.FrameSent := by
  intro s hs
  refine ⟨_, exec_frameSend_of_quiet hs, by rw [sendFrames_spec], fun p => ?_⟩
  obtain ⟨fillAt, link, sup⟩ := sendFrames_port s p
  obtain ⟨frame, block, align, settled⟩ := afterSend_spec s p fillAt (s.plu.get p)
  have payload : ((sampleBlock s p (s.plu.get p)).frameOf fillAt).payload.length ≤ 1024 :=
    Nat.le_trans (fillFrame_length_le 1024 1024 none [] _) (by simp)
  have place := sampleBlock_localPos s p (s.plu.get p)
  rw [link, sup]
  refine ⟨afterSend_localPos, ⟨_, frame, place, rfl, payload, OutFrame.stream_length _ payload, OutFrame.stream_take _,
    fun h => ?_, fun h => ?_, fun hq hd ht => ?_⟩, align, settled, stallCounted_of_not_end⟩
  · simp [Plu.frameOf, sampleBlock, h]
  · have sampled : (sampleBlock s p (s.plu.get p)).txBlock = s.statusBlock p := by simp [sampleBlock, h]
    rw [block, Plu.frameOf, place, h, sampled]
    exact ⟨rfl, rfl⟩
  · have idle := fillFrame_idle (n := 1024) (room := 1024) (first := none) (payload := [])
      (u := sampleBlock s p (s.plu.get p)) (by unfold sampleBlock; split <;> exact ht)
      (by unfold sampleBlock; split <;> exact hd) (by rw [sampleBlock_outQueue]; exact hq)
    rw [Plu.frameOf, idle]
    exact ⟨rfl, rfl⟩

end Sys2Proof.Machine
end

section
/-! Proofs about the fence: what each of its actions changes, and the state after all of them (R73, R74, R83, R117, R139,
R140, R144 to R148, R156, R157, R165). -/

namespace Sys2Proof.Machine

/- Declarations are elaborated one after another, which keeps the check within its memory. -/
set_option Elab.async false

variable {p : Port} {cause : FenceCause} {s : State}

/-! ### The actions of a fence, each as a change of one block -/

/-- R83: the link of a port that hands over one answer for each queue record. -/
def Plu.answerAll (st : CompStatus) (qs : List QueueRecord) (u : Plu) : Plu :=
  qs.foldl (fun u q => u.handOver (.completion q.tag st 0)) u

theorem answerRecords_eq (p : Port) (st : CompStatus) (qs : List QueueRecord) (s : State) :
    answerRecords p st qs s = s.onPlu p (·.answerAll st qs) := by
  induction qs generalizing s with
  | nil => exact (s.onPlu_self p).symm
  | cons q qs ih =>
    have first : answerRecords p st (q :: qs) s = answerRecords p st qs (complete p q.tag st s) := rfl
    rw [first, ih, complete, handOver, State.onPlu_onPlu]
    rfl

theorem linkUp_iff : s.linkUp p = true ↔ (s.plu.get p).align ≠ .down := by
  simp only [State.linkUp, bne_iff_ne]

@[simp] theorem handOver_align (m : OutMsg) (u : Plu) : (u.handOver m).align = u.align := by
  unfold Plu.handOver
  split <;> rfl

@[simp] theorem answerAll_align (st : CompStatus) (qs : List QueueRecord) (u : Plu) :
    (u.answerAll st qs).align = u.align :=
  foldl_keeps (fun v : Plu => v.align = u.align) _ (fun v _ h => (handOver_align _ v).trans h) qs u rfl

/-- A change of a link that is made only when the link is UP. -/
def Plu.whenUp (f : Plu → Plu) (u : Plu) : Plu := if u.align = .down then u else f u

theorem whenUp_of_down {f : Plu → Plu} {u : Plu} (h : u.align = .down) : u.whenUp f = u := if_pos h

theorem whenUp_of_up {f : Plu → Plu} {u : Plu} (h : u.align ≠ .down) : u.whenUp f = f u := if_neg h

theorem flushQueue_eq (p : Port) (s : State) :
    flushQueue p s = (clearQueue p s).onPlu p (·.whenUp (·.answerAll .fenced (s.au.queue.get p))) := by
  unfold flushQueue
  by_cases h : (s.plu.get p).align = .down
  · rw [if_neg fun up => linkUp_iff.mp up h]
    refine ((State.onPlu_congr ?_).trans (State.onPlu_self _ p)).symm
    exact whenUp_of_down h
  · rw [if_pos (linkUp_iff.mpr h), answerRecords_eq]
    exact State.onPlu_congr (whenUp_of_up h).symm

theorem fenceNotice_eq (p : Port) (cause : FenceCause) (s : State) :
    fenceNotice p cause s = s.onPlu p (·.whenUp (·.handOver (.fenceNotice cause (s.setIdOf p) s.oc.emap))) := by
  unfold fenceNotice
  by_cases h : (s.plu.get p).align = .down
  · rw [if_neg fun up => linkUp_iff.mp up h]
    exact ((State.onPlu_congr (whenUp_of_down h)).trans (State.onPlu_self _ p)).symm
  · rw [if_pos (linkUp_iff.mpr h)]
    exact State.onPlu_congr (whenUp_of_up h).symm

/-- R117: an entry of the port is watched under the set id of its fence. -/
def Entry.watch (p : Port) (id : Word) (e : Entry) : Entry :=
  if e.origin == .server p then { e with watched := some id } else e

@[simp] theorem watch_origin (p : Port) (id : Word) (e : Entry) : (e.watch p id).origin = e.origin := by
  unfold Entry.watch
  split <;> rfl

@[simp] theorem watch_op (p : Port) (id : Word) (e : Entry) : (e.watch p id).op = e.op := by
  unfold Entry.watch
  split <;> rfl

@[simp] theorem watch_abort (p : Port) (id : Word) (e : Entry) : (e.watch p id).abort = e.abort := by
  unfold Entry.watch
  split <;> rfl

@[simp] theorem watch_cmdTimer (p : Port) (id : Word) (e : Entry) : (e.watch p id).cmdTimer = e.cmdTimer := by
  unfold Entry.watch
  split <;> rfl

@[simp] theorem watch_tag (p : Port) (id : Word) (e : Entry) : (e.watch p id).tag = e.tag := by
  unfold Entry.watch
  split <;> rfl

@[simp] theorem intentOf_watch (p : Port) (id : Word) (e : Entry) : intentOf (e.watch p id) = intentOf e := by
  unfold Entry.watch
  split <;> rfl

theorem watchEntries_eq (p : Port) (s : State) :
    watchEntries p s = s.onDct fun d => { d with entries := d.entries.map (·.watch p (s.setIdOf p)) } := rfl

/-- R74: the port's own claim closes. -/
def Oc.claimantOut (p : Port) (o : Oc) : Oc :=
  match o.claimOf p with
  | some c =>
    { o with claims := o.claims.filter fun d => d.id != c.id,
             extents := o.extents.map fun e => if e.claim == some c.id then { e with claim := none } else e }
  | none => o

/-- R73: the claims that the port holds wait. -/
def Oc.holderOut (p : Port) (o : Oc) : Oc :=
  { o with claims := o.claims.map fun c =>
      if c.holder == p && (c.state == .asking || c.state == .waiting) then
        { c with state := .waiting, deadline := none, owed := false }
      else c }

theorem claimantFenced_eq (p : Port) (s : State) : claimantFenced p s = s.onOc (Oc.claimantOut p) := by
  cases h : s.oc.claimOf p with
  | none => simp only [claimantFenced, Oc.claimantOut, State.onOc, h]
  | some c => simp only [claimantFenced, closeClaim, Oc.claimantOut, State.onOc, h]

theorem holderLeaves_eq (p : Port) (s : State) : holderLeaves p s = s.onOc (Oc.holderOut p) := rfl

/-- R156, R157: the Takeover Controller with the set of these intent entries, when there are any. -/
def Tc.takeSet (p : Port) (es : List IntentEntry) (t : Tc) : Tc :=
  if es = [] then t
  else
    { t with
      intents := (if t.intents.length < 2 then t.intents else t.intents.drop 1) ++ [⟨(t.records.get p).setId, p, es⟩]
      discards := if t.intents.length < 2 then t.discards else satSucc t.discards
      records := t.records.set p { t.records.get p with count := es.length } }

theorem makeIntentSet_eq (p : Port) (s : State) :
    makeIntentSet p s =
      raiseIf (decide (s.portWrites p ≠ [] ∧ 2 ≤ s.tc.intents.length)) .intentDiscarded
        (s.onTc (Tc.takeSet p ((s.portWrites p).map intentOf))) := by
  unfold makeIntentSet discardOldest
  dsimp only
  by_cases none : s.portWrites p = []
  · simp [none, Tc.takeSet, raiseIf, State.onTc]
  · by_cases room : s.tc.intents.length < 2
    · have notFull : ¬ 2 ≤ s.tc.intents.length := by omega
      simp [none, room, notFull, raiseIf, State.onTc, Tc.takeSet]
    · have full : 2 ≤ s.tc.intents.length := by omega
      simp [none, room, full, raiseIf, State.onTc, Tc.takeSet, raise, State.onMi]

/-- R111: an abort is requested for an entry of the port that has none. -/
def Entry.abortFor (p : Port) (tAbt : Nat) (e : Entry) : Entry :=
  if e.origin == .server p && e.abort.isNone then e.sendAbort tAbt else e

/-- R111: an abort is requested for every entry of the port. -/
def Dct.abortAll (p : Port) (tAbt : Nat) (d : Dct) : Dct :=
  { d with out := d.out ++ (d.abortable p).map fun e => .abort e.tag, entries := d.entries.map (·.abortFor p tAbt) }

theorem requestAborts_eq (p : Port) (s : State) : requestAborts p s = s.onDct (Dct.abortAll p s.cfg.tAbt) := rfl

theorem portEntries_eq_zero_iff {d : Dct} : d.portEntries p = 0 ↔ ∀ e ∈ d.entries, e.origin ≠ .server p := by
  simp [Dct.portEntries]

theorem abortAll_of_none {d : Dct} {n : Nat} (h : d.portEntries p = 0) : d.abortAll p n = d := by
  have noEntry := portEntries_eq_zero_iff.mp h
  have none : d.abortable p = [] := by
    simp only [Dct.abortable, List.filter_eq_nil_iff]
    intro e he
    simp [noEntry e he]
  have same : d.entries.map (·.abortFor p n) = d.entries := by
    refine (List.map_congr_left fun e he => ?_).trans (List.map_id _)
    simp [Entry.abortFor, noEntry e he]
  simp [Dct.abortAll, none, same]

/-- R147: the drive command table at entry to DRAIN. -/
def Dct.takeDrain (p : Port) (mode : FenceMode) (tAbt : Nat) (d : Dct) : Dct :=
  let d := { d with clearReq := d.clearReq.set p true }
  match mode with
  | .drain => d
  | .abort => d.abortAll p tAbt

/-- R147: the drain timer at entry to DRAIN. -/
def drainTimer (entries : Nat) (mode : FenceMode) (tDrn : Nat) (before : Option Nat) : Option Nat :=
  if entries = 0 then before
  else match mode with
    | .drain => some tDrn
    | .abort => before

/-- R147: the takeover record of a port in DRAIN. -/
def Tc.drains (p : Port) (drain : Option Nat → Option Nat) (t : Tc) : Tc :=
  { t with records := t.records.set p { t.records.get p with stage := .drain, drain := drain (t.records.get p).drain } }

theorem enterDrain_eq (p : Port) (s : State) :
    enterDrain p s = (s.onDct (Dct.takeDrain p s.cfg.fenceMode s.cfg.tAbt)).onTc
      (Tc.drains p (drainTimer (s.dct.portEntries p) s.cfg.fenceMode s.cfg.tDrn)) := by
  unfold enterDrain
  dsimp only
  by_cases h : s.dct.portEntries p = 0
  · refine (if_pos h).trans ?_
    have timer : drainTimer (s.dct.portEntries p) s.cfg.fenceMode s.cfg.tDrn = id := by
      funext before
      exact if_pos h
    rw [timer]
    cases hm : s.cfg.fenceMode with
    | drain => rfl
    | abort =>
      have same : ({ s.dct with clearReq := s.dct.clearReq.set p true } : Dct).portEntries p = 0 := h
      simp only [Dct.takeDrain, State.onDct, abortAll_of_none same]
      rfl
  · refine (if_neg h).trans ?_
    simp only [State.onTc_mi, State.onDct_mi, State.cfg]
    cases hm : s.mi.settings.fenceMode with
    | drain => simp [Tc.drains, State.onTc, Dct.takeDrain, drainTimer, h]
    | abort =>
      have timer : drainTimer (s.dct.portEntries p) .abort s.mi.settings.tDrn = id := by
        funext before
        exact if_neg h
      rw [timer]
      rfl

/-! ### The state after a fence -/

theorem fencePort_fencing (hf : s.port p ≠ .fenced) (hb : s.ic.bridge ≠ .starting) :
    fencePort p cause s = fenceAction p cause (s.onSup p Supervisor.fenced) := by
  simp [fencePort, hf, hb]

/-- The WRITEs of a port at the drive, in issue order. -/
def Dct.writesOf (d : Dct) (p : Port) : List Entry := d.entries.filter fun e => e.origin == .server p && e.op == .write

theorem portWrites_of_watched (d : Dct) (p : Port) (id : Word) :
    (d.entries.map (·.watch p id)).filter (fun e => e.origin == .server p && e.op == .write) =
      (d.writesOf p).map (·.watch p id) := by
  rw [List.filter_map]
  simp only [Function.comp_def, watch_origin, watch_op, Dct.writesOf]

theorem portEntries_of_watched (d : Dct) (p : Port) (id : Word) :
    ({ d with entries := d.entries.map (·.watch p id) } : Dct).portEntries p = d.portEntries p := by
  simp [Dct.portEntries, List.filter_map, Function.comp_def]

/-- R146: what a fence adds to the closing list for the takeover that it finds in PERSIST. -/
def Takeover.moved (p : Port) (r : Takeover) : List Closing :=
  match r.stage, r.step with
  | .persist, some step => [⟨p, r.setId, r.dest.join, r.count, step⟩]
  | _, _ => []

theorem moved_of_persist {r : Takeover} {step : Nat} (hs : r.stage = .persist) (hk : r.step = some step) :
    r.moved p = [⟨p, r.setId, r.dest.join, r.count, step⟩] := by
  simp only [Takeover.moved, hs, hk]

theorem moved_of_other {r : Takeover} (hs : r.stage ≠ .persist) : r.moved p = [] := by
  unfold Takeover.moved
  split
  · next h _ => exact absurd h hs
  · rfl

theorem moveClosing_eq (t : Tc) : t.moveClosing p = { t with closing := t.closing ++ (t.records.get p).moved p } := by
  unfold Tc.moveClosing
  split
  · next _ _ step hs hk => rw [moved_of_persist hs hk]
  · next none =>
    have nothing : (t.records.get p).moved p = [] := by
      unfold Takeover.moved
      split
      · next hs hk => exact (none _ hs hk).elim
      · rfl
    rw [nothing, List.append_nil]

theorem moveClosing_fenceCount {t : Tc} : (t.moveClosing p).fenceCount = t.fenceCount := by
  rw [moveClosing_eq]

theorem takeFence_eq (t : Tc) : t.takeFence p cause =
    { t.moveClosing p with
      parks := t.parks.set p (fencedPark (t.parks.get p))
      records := t.records.set p
        ⟨some cause, (t.moveClosing p).nextSetId p, .fence, none, none, 0, none⟩
      fenceCount := (t.moveClosing p).nextSetId p } := by
  simp only [Tc.takeFence, moveClosing_eq]
  rfl

/-- R145 to R148, R156, R157: the Takeover Controller after a fence that finds the writes `ws` at the drive. -/
def Tc.fenced (p : Port) (cause : FenceCause) (es : List IntentEntry) (drain : Option Nat → Option Nat) (t : Tc) : Tc :=
  ((t.takeFence p cause).takeSet p es).drains p drain

/-- R117, R147: the drive command table after a fence. -/
def Dct.fenced (p : Port) (id : Word) (mode : FenceMode) (tAbt : Nat) (d : Dct) : Dct :=
  ({ d with entries := d.entries.map (·.watch p id) } : Dct).takeDrain p mode tAbt

theorem intents_of_watched (es : List Entry) (p : Port) (id : Word) :
    (es.map (·.watch p id)).map intentOf = es.map intentOf := by
  simp only [List.map_map, Function.comp_def, intentOf_watch]

@[simp] theorem takeSet_setId (p : Port) (es : List IntentEntry) (t : Tc) :
    ((t.takeSet p es).records.get p).setId = (t.records.get p).setId := by
  unfold Tc.takeSet
  split
  · rfl
  · rw [PerPort.get_set_self]

@[simp] theorem outOfClaims_emap (p : Port) (o : Oc) : ((o.claimantOut p).holderOut p).emap = o.emap := by
  unfold Oc.holderOut Oc.claimantOut
  split <;> rfl

theorem whenUp_whenUp {f g : Plu → Plu} {u : Plu} (h : (f u).align = u.align) :
    (u.whenUp f).whenUp g = u.whenUp fun v => g (f v) := by
  by_cases down : u.align = .down
  · rw [whenUp_of_down down, whenUp_of_down down, whenUp_of_down down]
  · rw [whenUp_of_up down, whenUp_of_up down, whenUp_of_up (h ▸ down)]

theorem takeoverBegun_mask : Event.takeoverBegun.mask = 1#16 := rfl

theorem intentDiscarded_mask : Event.intentDiscarded.mask = 512#16 := rfl

theorem raiseIf_eq (c : Bool) (e : Event) (s : State) :
    raiseIf c e s = s.onMi fun m => { m with events := if c then m.events ||| e.mask else m.events } := by
  cases c <;> rfl

/-- R139, R140, R145: a fence of a port that is not FENCED, outside STARTING, as one change of each block. -/
theorem fencePort_eq (hf : s.port p ≠ .fenced) (hb : s.ic.bridge ≠ .starting) :
    fencePort p cause s =
      { s with
        sup := s.sup.set p (s.sup.get p).fenced
        au := { s.au with queue := s.au.queue.set p [] }
        plu := s.plu.set p ((s.plu.get p).whenUp fun u => (u.answerAll .fenced (s.au.queue.get p)).handOver
          (.fenceNotice cause ((s.tc.moveClosing p).nextSetId p) s.oc.emap))
        oc := (s.oc.claimantOut p).holderOut p
        dct := s.dct.fenced p ((s.tc.moveClosing p).nextSetId p) s.cfg.fenceMode s.cfg.tAbt
        tc := s.tc.fenced p cause ((s.dct.writesOf p).map intentOf)
          (drainTimer (s.dct.portEntries p) s.cfg.fenceMode s.cfg.tDrn)
        mi := { s.mi with
          events := (if s.dct.writesOf p ≠ [] ∧ 2 ≤ s.tc.intents.length then s.mi.events ||| 512#16 else s.mi.events) |||
            1#16 } } := by
  rw [fencePort_fencing hf hb]
  simp only [fenceAction, flushQueue_eq, watchEntries_eq, claimantFenced_eq, holderLeaves_eq, makeIntentSet_eq,
    fenceNotice_eq, enterDrain_eq, raiseIf_eq, raise, clearQueue, State.portWrites, State.setIdOf]
  simp only [State.onPlu, State.onSup, State.onOc, State.onAu, State.onDct, State.onTc, State.onMi, State.cfg,
    PerPort.set_set, PerPort.get_set_self, takeFence_eq, portWrites_of_watched, portEntries_of_watched, intents_of_watched,
    takeSet_setId, outOfClaims_emap, whenUp_whenUp (answerAll_align .fenced (s.au.queue.get p) (s.plu.get p)),
    moveClosing_intents, ne_eq, List.map_eq_nil_iff, decide_eq_true_eq, Tc.fenced, Dct.fenced, takeoverBegun_mask,
    intentDiscarded_mask]

/-! ### What the Takeover Controller, the drive command table and the claims are after a fence -/

section AfterFence

variable {es : List IntentEntry} {drain : Option Nat → Option Nat} {t : Tc}

theorem takeSet_records : (t.takeSet p es).records =
    t.records.set p { t.records.get p with count := if es = [] then (t.records.get p).count else es.length } := by
  unfold Tc.takeSet
  split
  · next h => exact (PerPort.set_get _ _).symm
  · rfl

theorem takeSet_rest : (t.takeSet p es).closing = t.closing ∧ (t.takeSet p es).parks = t.parks ∧
    (t.takeSet p es).fenceCount = t.fenceCount := by
  unfold Tc.takeSet
  split <;> exact ⟨rfl, rfl, rfl⟩

theorem fenced_records : (t.fenced p cause es drain).records =
    t.records.set p ⟨some cause, (t.moveClosing p).nextSetId p, .drain, drain none, none, es.length, none⟩ := by
  have count : (if es = [] then 0 else es.length) = es.length := by
    split
    · next h => rw [h, List.length_nil]
    · rfl
  simp only [Tc.fenced, Tc.drains, takeSet_records, takeFence_eq, PerPort.set_set, PerPort.get_set_self, count]

theorem fenced_fenceCount : (t.fenced p cause es drain).fenceCount = (t.moveClosing p).nextSetId p := by
  simp only [Tc.fenced, Tc.drains, takeSet_rest.2.2, takeFence_eq]

theorem fenced_closing : (t.fenced p cause es drain).closing = t.closing ++ (t.records.get p).moved p := by
  simp only [Tc.fenced, Tc.drains, takeSet_rest.1, takeFence_eq, moveClosing_eq]

theorem fenced_parks : (t.fenced p cause es drain).parks = t.parks.set p (fencedPark (t.parks.get p)) := by
  simp only [Tc.fenced, Tc.drains, takeSet_rest.2.1, takeFence_eq]

theorem fenced_of_nil : (t.fenced p cause [] drain).intents = t.intents ∧
    (t.fenced p cause [] drain).discards = t.discards := by
  simp only [Tc.fenced, Tc.drains, Tc.takeSet, takeFence_eq, moveClosing_eq, if_true, and_self]

theorem fenced_of_room (hes : es ≠ []) (room : t.intents.length < 2) :
    (t.fenced p cause es drain).intents = t.intents ++ [⟨(t.moveClosing p).nextSetId p, p, es⟩] ∧
      (t.fenced p cause es drain).discards = t.discards := by
  simp [Tc.fenced, Tc.drains, Tc.takeSet, takeFence_eq, moveClosing_eq, hes, room]

theorem fenced_of_full (hes : es ≠ []) (full : 2 ≤ t.intents.length) :
    (t.fenced p cause es drain).intents = t.intents.drop 1 ++ [⟨(t.moveClosing p).nextSetId p, p, es⟩] ∧
      (t.fenced p cause es drain).discards = satSucc t.discards := by
  have noRoom : ¬ t.intents.length < 2 := by omega
  simp [Tc.fenced, Tc.drains, Tc.takeSet, takeFence_eq, moveClosing_eq, hes, noRoom]

theorem mem_usedSetIds {x : Word} : (t.usedSetIds p).contains x = true ↔
    (∃ y ∈ t.intents, y.setId = x) ∨ (∃ y ∈ t.closing, y.setId = x) ∨
      ((t.records.get p.peer).stage ≠ .closed ∧ (t.records.get p.peer).setId = x) := by
  have peer : x ∈ (if (t.records.get p.peer).isOpen then [(t.records.get p.peer).setId] else []) ↔
      (t.records.get p.peer).stage ≠ .closed ∧ (t.records.get p.peer).setId = x := by
    by_cases h : (t.records.get p.peer).stage = .closed
    · simp [Takeover.isOpen, h]
    · simp only [Takeover.isOpen, bne_iff_ne, ne_eq, h, not_false_eq_true, if_true, List.mem_singleton, true_and]
      exact eq_comm
  rw [List.contains_iff_mem, Tc.usedSetIds, List.mem_append, List.mem_append, peer, List.mem_map, List.mem_map]
  exact or_assoc.trans (or_congr_right or_comm)

theorem nextSetId_first (ids : Nat → Word) (k : Nat) (h0 : ids 0 = succSetId t.fenceCount)
    (hs : ∀ j, ids (j + 1) = succSetId (ids j)) (hk : k ≤ (t.usedSetIds p).length)
    (hu : ∀ j, j < k → (t.usedSetIds p).contains (ids j) = true) (hf : (t.usedSetIds p).contains (ids k) = false) :
    t.nextSetId p = ids k :=
  freeSetId_first _ _ _ ids k h0 hs hk hu hf

theorem nextSetId_of_free (hf : (t.usedSetIds p).contains (succSetId t.fenceCount) = false) :
    t.nextSetId p = succSetId t.fenceCount :=
  freeSetId_first _ _ _ (fun j => Nat.repeat succSetId j (succSetId t.fenceCount)) 0 rfl
    (fun _ => rfl) (Nat.zero_le _) (fun _ h => absurd h (Nat.not_lt_zero _)) hf

end AfterFence

section Claims

variable {o : Oc}

/-- R73: a claim that its holder's fence leaves waiting. -/
def Claim.holderGone (c : Claim) : Claim :=
  if c.state = .asking ∨ c.state = .waiting then { c with state := .waiting, deadline := none, owed := false } else c

theorem holder_eq_iff {c : Claim} : c.holder = p ↔ c.claimant ≠ p := by
  rw [Claim.holder]
  cases c.claimant <;> cases p <;> decide

theorem claimantOut_of_none (h : ∀ c ∈ o.claims, c.claimant ≠ p) : o.claimantOut p = o := by
  have none : o.claimOf p = none := by
    simp only [Oc.claimOf, List.find?_eq_none, beq_iff_eq]
    exact h
  simp only [Oc.claimantOut, none]

/-- R74: the claims after the claimant's fence, when it has one claim open, with an id of its own. -/
theorem claimantOut_of_mem {c : Claim} (hm : c ∈ o.claims) (hc : c.claimant = p)
    (one : ∀ d ∈ o.claims, d.claimant = p → d = c) (ids : ∀ d ∈ o.claims, d.id = c.id → d = c) :
    o.claimantOut p = { o with
      claims := o.claims.filter fun d => d.claimant ≠ p
      extents := o.extents.map fun e => if e.claim = some c.id then { e with claim := none } else e } := by
  have found : o.claimOf p = some c := by
    cases h : o.claimOf p with
    | none => exact absurd hc (by simpa using List.find?_eq_none.mp h c hm)
    | some d => rw [one d (List.mem_of_find?_eq_some h) (by simpa using List.find?_some h)]
  have claims : (o.claims.filter fun d => d.id != c.id) = o.claims.filter fun d => d.claimant ≠ p := by
    refine List.filter_congr fun d hd => ?_
    have same : d.id = c.id ↔ d.claimant = p := ⟨fun h => ids d hd h ▸ hc, fun h => one d hd h ▸ rfl⟩
    by_cases h : d.claimant = p <;> simp [same, h]
  simp only [Oc.claimantOut, found, claims, beq_iff_eq]

/-- R73: when no claim is the port's own, it holds every claim. -/
theorem holderOut_eq (h : ∀ c ∈ o.claims, c.claimant ≠ p) :
    o.holderOut p = { o with claims := o.claims.map Claim.holderGone } := by
  have claims : (o.claims.map fun c => if c.holder == p && (c.state == .asking || c.state == .waiting) then
        { c with state := .waiting, deadline := none, owed := false } else c) = o.claims.map Claim.holderGone := by
    refine List.map_congr_left fun c hc => ?_
    simp [Claim.holderGone, holder_eq_iff.mpr (h c hc)]
  rw [Oc.holderOut, claims]

end Claims

end Sys2Proof.Machine
end

section
/-! Proofs about the fence: what it does to every block, by any of its sources. -/

namespace Sys2Proof.Machine

/- Declarations are elaborated one after another, which keeps the check within its memory. -/
set_option Elab.async false

variable {p : Port} {cause : FenceCause} {s : State}

section Drain

variable {d : Dct} {id : Word} {n : Nat} {mode : FenceMode}

/-- The changes that a fence makes to an entry, forgotten. -/
def Entry.calm (e : Entry) : Entry := { e with cmdTimer := none, abort := none }

theorem calm_abortFor (e : Entry) : (e.abortFor p n).calm = e.calm := by
  unfold Entry.abortFor
  split <;> rfl

theorem calm_watch (e : Entry) : (e.watch p id).calm =
    { e with cmdTimer := none, abort := none, watched := if e.origin = .server p then some id else e.watched } := by
  by_cases h : e.origin = .server p <;> simp [Entry.watch, Entry.calm, h]

theorem fenced_rest : d.fenced p id mode n = { d with
    clearReq := d.clearReq.set p true, entries := (d.fenced p id mode n).entries, out := (d.fenced p id mode n).out } := by
  cases mode <;> rfl

theorem fenced_entries_calm : (d.fenced p id mode n).entries.map Entry.calm = d.entries.map (fun e =>
    { e with cmdTimer := none, abort := none, watched := if e.origin = .server p then some id else e.watched }) := by
  cases mode with
  | drain => simp only [Dct.fenced, Dct.takeDrain, List.map_map, Function.comp_def, calm_watch]
  | abort =>
    simp only [Dct.fenced, Dct.takeDrain, Dct.abortAll, List.map_map, Function.comp_def, calm_abortFor, calm_watch]

theorem fenced_drain_entries : (d.fenced p id .drain n).entries.map (fun e => (e.cmdTimer, e.abort)) =
    d.entries.map fun e => (e.cmdTimer, e.abort) := by
  simp only [Dct.fenced, Dct.takeDrain, List.map_map, Function.comp_def, watch_cmdTimer, watch_abort]

theorem fenced_drain_out : (d.fenced p id .drain n).out = d.out := rfl

theorem fenced_abort_entries : (d.fenced p id .abort n).entries.map (fun e => (e.cmdTimer, e.abort)) =
    d.entries.map fun e =>
      if e.origin = .server p ∧ e.abort = none then (none, some n) else (e.cmdTimer, e.abort) := by
  simp only [Dct.fenced, Dct.takeDrain, Dct.abortAll, List.map_map]
  refine List.map_congr_left fun e _ => ?_
  by_cases h : e.origin = .server p ∧ e.abort = none <;>
    simp [Entry.abortFor, Entry.sendAbort, h]

theorem fenced_abort_out : (d.fenced p id .abort n).out =
    d.out ++ (d.entries.filter fun e => e.origin = .server p ∧ e.abort = none).map fun e => DriveMsg.abort e.tag := by
  simp only [Dct.fenced, Dct.takeDrain, Dct.abortAll, Dct.abortable, List.filter_map, List.map_map, Function.comp_def,
    watch_origin, watch_abort, watch_tag]
  congr 2
  refine List.filter_congr fun e _ => Bool.eq_iff_iff.mpr ?_
  simp

theorem fenced_out_of_none (h : ∀ e ∈ d.entries, e.origin ≠ .server p) : (d.fenced p id mode n).out = d.out := by
  cases mode with
  | drain => rfl
  | abort =>
    have none : (d.entries.filter fun e => e.origin = .server p ∧ e.abort = none) = [] := by
      rw [List.filter_eq_nil_iff]
      intro e he
      simp [h e he]
    rw [fenced_abort_out, none, List.map_nil, List.append_nil]

end Drain

theorem writesOf_eq (d : Dct) (p : Port) : d.writesOf p = d.entries.filter fun e => e.origin = .server p ∧ e.op = .write :=
  List.filter_congr fun e _ => Bool.eq_iff_iff.mpr (by simp)

/-- Settles O33: the fence as one change of each block, and then each block from the rules about its change. -/
theorem fenceCutsOff : Obligations.FenceCutsOff := by
  intro p cause s t ws id ht hw hid
  refine ⟨fun h => ?_, fun hf hb => ?_⟩
  · rw [ht, fencePort]
    rcases h with h | h <;> simp [h]
  have fence := ht.trans (fencePort_eq hf hb)
  have writes : s.dct.writesOf p = ws := (writesOf_eq _ _).trans hw.symm
  rw [← hid, writes] at fence
  have record : t.tc.records.get p = ⟨some cause, id, .drain,
      drainTimer (s.dct.portEntries p) s.cfg.fenceMode s.cfg.tDrn none, none, ws.length, none⟩ := by
    rw [fence, fenced_records, PerPort.get_set_self, hid, List.length_map]
  have sets : ws ≠ [] → ws.map intentOf ≠ [] := fun h => by simpa using h
  have held : (∀ c ∈ s.oc.claims, c.claimant ≠ p) → t.oc = { s.oc with claims := s.oc.claims.map Claim.holderGone } :=
    fun hc => by rw [fence, claimantOut_of_none hc, holderOut_eq hc]
  have own : ∀ c ∈ s.oc.claims, c.claimant = p → (∀ d ∈ s.oc.claims, d.claimant = p → d = c) →
      (∀ d ∈ s.oc.claims, d.id = c.id → d = c) → t.oc = { s.oc with
        claims := (s.oc.claims.filter fun d => d.claimant ≠ p).map Claim.holderGone
        extents := s.oc.extents.map fun e => if e.claim = some c.id then { e with claim := none } else e } := by
    intro c hc hp one ids
    rw [fence, claimantOut_of_mem hc hp one ids, holderOut_eq (by simp)]
  refine ⟨by rw [fence], by rw [fence]; rfl, by rw [fence], ?count, ?peerRecord, ?record, fun free => ?fresh,
    fun ids k h0 hs hk hu hf => ?first, fun x => ?used, fun hs => ?stays, fun step hs hk => ?moved, ?peerPark, fun hp => ?noPark,
    fun r hr => ?park, ?table, ?entries, fun hc => ?noClaim, fun c hc => ?oneClaim, held, own,
    fun h => ?noSet, fun h room => ?roomForSet, fun h full => ?fullOfSets, ?events, ?peerLink, fun hd => ?down,
    fun hu => ?up, fun h => ?noEntry, fun hm he => ?drain, fun hm => ?abort⟩
  case count => rw [fence, fenced_fenceCount, hid]
  case peerRecord => rw [fence, fenced_records, PerPort.get_set_peer]
  case record => rw [record]
  case fresh =>
    rw [← moveClosing_fenceCount (p := p)] at free ⊢
    rw [hid, nextSetId_of_free free]
  case first =>
    rw [hid]
    exact nextSetId_first ids k (h0.trans (by rw [moveClosing_fenceCount])) hs hk hu hf
  case used =>
    rw [mem_usedSetIds, moveClosing_intents, moveClosing_records]
  case stays => rw [fence, fenced_closing, moved_of_other hs, List.append_nil]
  case moved => rw [fence, fenced_closing, moved_of_persist hs hk]
  case peerPark => rw [fence, fenced_parks, PerPort.get_set_peer]
  case noPark => rw [fence, fenced_parks, PerPort.get_set_self, hp]; rfl
  case park =>
    rw [fence, fenced_parks, PerPort.get_set_self, hr]
    constructor
    · rintro (h | h) <;> simp only [fencedPark, h]
    · rintro (h | h) <;> simp only [fencedPark, h]
  case table => rw [fence]; exact fenced_rest
  case entries => rw [fence]; exact fenced_entries_calm
  case noClaim =>
    rw [held (by simp [hc]), hc, List.map_nil, ← hc]
  case oneClaim =>
    refine ⟨fun hp => ?_, fun hp => ?_⟩
    · rw [own c (by simp [hc]) hp (by simp [hc]) (by simp [hc]), hc]
      simp [hp]
    · rw [held (by simp [hc, hp, Port.peer_ne]), hc]
      rfl
  case noSet =>
    rw [fence, h]
    exact fenced_of_nil
  case roomForSet =>
    rw [fence]
    rw [hid]
    exact (fenced_of_room (sets h) room).symm
  case fullOfSets =>
    rw [fence]
    rw [hid]
    exact (fenced_of_full (sets h) full).symm
  case events => rw [fence]
  case peerLink => rw [fence, PerPort.get_set_peer]
  case down => rw [fence, whenUp_of_down hd, PerPort.set_get]
  case up =>
    rw [fence, PerPort.get_set_self, whenUp_of_up hu]
    rfl
  case noEntry =>
    have none := portEntries_eq_zero_iff.mpr h
    refine ⟨by rw [record]; exact if_pos none, by rw [fence]; exact fenced_out_of_none h⟩
  case drain =>
    have busy : s.dct.portEntries p ≠ 0 := fun h0 => by
      obtain ⟨e, hm, ho⟩ := he
      exact portEntries_eq_zero_iff.mp h0 e hm ho
    refine ⟨by rw [record, hm]; exact if_neg busy, ?_, ?_⟩
    · rw [fence, hm]
      exact fenced_drain_out (n := s.cfg.tAbt)
    · rw [fence, hm]
      exact fenced_drain_entries (n := s.cfg.tAbt)
  case abort =>
    refine ⟨by rw [record, hm]; exact ite_self _, ?_, ?_⟩
    · rw [fence, hm]
      exact fenced_abort_out
    · rw [fence, hm]
      exact fenced_abort_entries

/-- R139, R140: a fence leaves the other port's supervisor and link alone. -/
theorem fencePort_peer (p : Port) (cause : FenceCause) (s : State) :
    (fencePort p cause s).sup.get p.peer = s.sup.get p.peer ∧
      (fencePort p cause s).plu.get p.peer = s.plu.get p.peer := by
  by_cases h : s.port p = .fenced ∨ s.ic.bridge = .starting
  · have same : fencePort p cause s = s := by rcases h with h | h <;> simp [fencePort, h]
    rw [same]
    exact ⟨rfl, rfl⟩
  · obtain ⟨hf, hb⟩ := not_or.mp h
    rw [fencePort_eq hf hb]
    exact ⟨PerPort.get_set_peer _ _ _, PerPort.get_set_peer _ _ _⟩

end Sys2Proof.Machine
end

section
/-! Rules about messages: what a request and a drive command come to by their length, their fields and the bridge state
(R24, R29), and the management line's codes of ports. -/

namespace Sys2Proof.Machine

/- Declarations are elaborated one after another, which keeps the check within its memory. -/
set_option Elab.async false

variable {p : Port} {h : Header} {s : State} {len : Nat} {ok : Bool} {wrongBody body : AnswerBody} {serve : State → State}

/-! ### Requests -/

theorem lengthInRange_iff {l : Word} : lengthInRange l = true ↔ 6#16 ≤ l ∧ l ≤ 4106#16 := by
  simp [lengthInRange]

theorem byLength_lost {wrong f : State → State} (hr : lengthInRange h.length = false) :
    byLength p h len wrong f s = lengthLost p s := by
  simp [byLength, hr]

theorem byLength_wrong {wrong f : State → State} (hr : lengthInRange h.length = true) (hl : h.length.toNat ≠ len) :
    byLength p h len wrong f s = wrong s := by
  simp [byLength, hr, hl]

theorem byLength_right {wrong f : State → State} (hr : lengthInRange h.length = true) (hl : h.length.toNat = len) :
    byLength p h len wrong f s = f s := by
  simp [byLength, hr, hl]

section RightLength

variable (hr : lengthInRange h.length = true) (hl : h.length.toNat = len)

include hr hl

theorem request_badFields (hk : ok = false) :
    request p h len ok wrongBody body serve s = answer p h.ref noFlags .invalid body s := by
  rw [request, byLength_right hr hl]
  simp [hk]

theorem request_starting (hk : ok = true) (hb : s.ic.bridge = .starting) :
    request p h len ok wrongBody body serve s = answer p h.ref noFlags .notReady body s := by
  rw [request, byLength_right hr hl]
  simp [hk, hb]

theorem request_served (hk : ok = true) (hb : s.ic.bridge ≠ .starting) :
    request p h len ok wrongBody body serve s = serve s := by
  rw [request, byLength_right hr hl]
  simp [hk, hb]

end RightLength

/-! ### Codes of ports -/

@[simp] theorem portOfCode_portCode (p : Port) : portOfCode (portCode p) = some p := by
  cases p <;> rfl

theorem portOfCode_undefined {c : Byte} (h : c = 0#8 ∨ 2#8 < c) : portOfCode c = none := by
  have notA : c ≠ 0x01#8 := by bv_omega
  have notB : c ≠ 0x02#8 := by bv_omega
  simp [portOfCode, notA, notB]

/-! ### The management line -/

theorem whenIdle_idle {f : State → State} (h : s.mi.answer.status ≠ .pending) : whenIdle f s = f s := by
  simp [whenIdle, State.miIdle, h]

theorem whenIdle_busy {f : State → State} (h : s.mi.answer.status = .pending) : whenIdle f s = s := by
  simp [whenIdle, State.miIdle, h]

end Sys2Proof.Machine
end

section
/-! Proofs about what asks for a fence (R133, R136, R138, R142, R186), about deadlines (R72, R148), about the intent list
(R159, R160) and about the queries (R19, R33, R34). -/

namespace Sys2Proof.Machine

/- Declarations are elaborated one after another, which keeps the check within its memory. -/
set_option Elab.async false

variable {p : Port} {s : State}

/-! ### TAKEOVER and FENCE PORT -/

theorem exec_takeover_of_quiet {h : Header} {x : Byte} (hq : Quiet s) :
    exec (.takeover p h x) s = .next (takeTakeover p h x s) := by
  have arm : exec (.takeover p h x) s = .next (takeTakeover p h x (settle s)) := rfl
  rw [arm, settle_of_quiet hq]

theorem exec_fencePort_of_quiet {seq x : Byte} (hq : Quiet s) :
    exec (.fencePort seq x) s = .next (takeFencePort seq x s) := by
  have arm : exec (.fencePort seq x) s = .next (takeFencePort seq x (settle s)) := rfl
  rw [arm, settle_of_quiet hq]

theorem takeTakeover_served {h : Header} (hl : h.length = 7#16) (hb : s.ic.bridge ≠ .starting) :
    takeTakeover p h (portCode p.peer) s = serveTakeover p h s :=
  request_served (by rw [hl]; rfl) (by rw [hl]; rfl) (by simp) hb

theorem takeFencePort_undefined {seq code : Byte} (hi : s.mi.answer.status ≠ .pending) (hc : code = 0#8 ∨ 2#8 < code) :
    takeFencePort seq code s = finish seq 5#8 .invalid noMiFlags [0, 0, 0] s := by
  rw [takeFencePort, whenIdle_idle hi, portOfCode_undefined hc]
  rfl

theorem takeFencePort_defined {seq : Byte} (hi : s.mi.answer.status ≠ .pending) :
    takeFencePort seq (portCode p) s = fenceByRequest seq p s := by
  rw [takeFencePort, whenIdle_idle hi, portOfCode_portCode]

theorem isOpen_eq (t : Takeover) : t.isOpen = !decide (t.stage = .closed) := by
  rw [Takeover.isOpen, bne, Bool.beq_eq_decide_eq]

/-- Settles O34, by the cases of the two requests. -/
theorem fenceRequested : Obligations.FenceRequested := by
  refine ⟨fun p h seq s hq hb => ⟨fun hl => ?takeover, fun hi => ?fence⟩, fun p seq s hq hb hi => ?starting⟩
  case takeover =>
    rw [exec_takeover_of_quiet hq, takeTakeover_served hl hb, serveTakeover]
    refine ⟨fun hp => ?_, fun hp hs => ?_, fun hp hs => ⟨fun hf ho => ?_, fun hf ho => ?_, fun t hf ht => ?_⟩⟩
    · simp [State.takeoverTest, hp]
    · simp [State.takeoverTest, hp, hs]
    · simp [State.takeoverTest, hp, hs, hf, isOpen_eq, ho]
    · simp [State.takeoverTest, hp, hs, hf, isOpen_eq, ho]
    · have none : s.takeoverTest p = none := by simp [State.takeoverTest, hp, hs, hf]
      rw [none, ht]
      rfl
  case fence =>
    refine ⟨fun code hc => ?_, fun hf => ?_, fun t hf ht => ?_⟩ <;> rw [exec_fencePort_of_quiet hq]
    · rw [takeFencePort_undefined hi hc]
    · rw [takeFencePort_defined hi, fenceByRequest, if_neg (by simpa using hb), if_pos (by simpa using hf), isOpen_eq]
      by_cases hc : (s.tc.records.get p).stage = .closed <;> simp [hc, fencePortBody] <;> rfl
    · rw [takeFencePort_defined hi, fenceByRequest, if_neg (by simpa using hb), if_neg (by simpa using hf), ht]
      rfl
  case starting =>
    refine ⟨fun code hc => ?_, ?_⟩ <;> rw [exec_fencePort_of_quiet hq]
    · rw [takeFencePort_undefined hi hc]
    · rw [takeFencePort_defined hi, fenceByRequest, if_pos (by simpa using hb)]
      rfl

/-! ### Timers -/

theorem setPort_self {st : PortState} (h : s.port p = st) : setPort p st s = s := by
  have same : ({ s.sup.get p with state := st } : Supervisor) = s.sup.get p := by rw [← h]; rfl
  rw [setPort, State.onSup, same, PerPort.set_get]

theorem exec_confirmTimerExpiry_of_quiet (hq : Quiet s) (hc : (s.sup.get p).confirm.isSome = true) :
    exec (.confirmTimerExpiry p) s = .next (confirmExpires p s) := by
  have arm : exec (.confirmTimerExpiry p) s =
    .next (if ((settle s).sup.get p).confirm.isSome then confirmExpires p (settle s) else settle s) := rfl
  rw [arm, settle_of_quiet hq, if_pos hc]

theorem exec_parkTimerExpiry_of_held (hq : nextDueHolding (some p) s = none) :
    exec (.parkTimerExpiry p) s =
      .next (if (s.sup.get p).park.isSome && s.port p == .parking then fencePort p .parkTimeout s else s) := by
  have arm : exec (.parkTimerExpiry p) s =
    .next (if ((settleHolding p s).sup.get p).park.isSome && (settleHolding p s).port p == .parking then
      fencePort p .parkTimeout (settleHolding p s) else settleHolding p s) := rfl
  rw [arm, settleHolding_of_none hq]

theorem exec_startWindowExpiry_of_quiet (hq : Quiet s) (hw : s.startWindow.isSome = true) :
    exec .startWindowExpiry s = .next (testAbsent .b (testAbsent .a { s with startWindow := none })) := by
  have arm : exec .startWindowExpiry s = .next (if (settle s).startWindow.isSome then
    testAbsent .b (testAbsent .a { settle s with startWindow := none }) else settle s) := rfl
  rw [arm, settle_of_quiet hq, if_pos hw]

theorem absentOwner_iff : s.absentOwner p = true ↔
    (s.port p = .offline ∨ s.port p = .linked) ∧ s.oc.owns p = true ∧ s.port p.peer = .enrolled ∧
      s.cfg.autoTakeover = true := by
  simp [State.absentOwner, and_assoc]

theorem testAbsent_of_not (h : s.absentOwner p = false) : testAbsent p s = s := by
  rw [testAbsent, h]
  rfl

theorem testAbsent_of_absent (h : s.absentOwner p = true) : testAbsent p s = fencePort p .absent s := if_pos h

/-- R133: the judgement at the expiry of the confirm timer, by what the peer's server says. -/
theorem confirmExpires_spec (p : Port) (s : State) :
    PeerJudged p.peer (s.onSup p fun u => { u with confirm := none, confirmed := true }) (confirmExpires p s) := by
  have judged := judge_peerJudged p.peer (s.onSup p fun u => { u with confirm := none, confirmed := true })
  rwa [Port.peer_peer] at judged

/-- R138: a port that is heard, or whose peer is not, does not lack its server. -/
theorem absentOwner_of_enrolled (h : s.port p = .enrolled) : s.absentOwner p = false := by
  simp [State.absentOwner, h]

/-- R138: at most one port lacks its server at the end of the start window, for its peer is ENROLLED. -/
theorem testBothAbsent_of_absent (h : s.absentOwner p = true) :
    testAbsent .b (testAbsent .a s) = fencePort p .absent s := by
  obtain ⟨-, -, hpeer, -⟩ := absentOwner_iff.mp h
  cases p with
  | a =>
    have heard : (fencePort .a .absent s).port .b = .enrolled :=
      (congrArg Supervisor.state (fencePort_peer .a .absent s).1).trans hpeer
    rw [testAbsent_of_absent h, testAbsent_of_not (absentOwner_of_enrolled heard)]
  | b => rw [testAbsent_of_not (p := .a) (absentOwner_of_enrolled hpeer), testAbsent_of_absent h]

/-- Settles O35: the judgement of a confirmed port, the fence of a PARKING port, and the two ports at the start window's
end, of which at most one is without its server. -/
theorem timersFence : Obligations.TimersFence := by
  refine ⟨fun p s c hq hc hp hc' => ?confirm, fun p s hq => ⟨fun hk hp => ?park, fun hw => ⟨fun ho hown hpeer ht => ?absent,
    fun nobody => ?present⟩⟩, fun p s hq => ⟨fun hk hp => ?held, fun hk => ?stopped⟩⟩
  case confirm =>
    obtain ⟨unheard, heard⟩ := confirmExpires_spec p s
    rw [← hc', Port.peer_peer] at unheard heard
    have port : c.port p.peer = s.port p.peer := by
      rw [hc', State.port, State.onSup_sup, PerPort.get_set_peer]
      rfl
    have judged : c.port p = .held ∨ (c.port p = .suspect ∧ (c.sup.get p).confirmed = true) := by
      refine .inr ⟨?_, ?_⟩
      · rw [hc', State.port, State.onSup_sup, PerPort.get_set_self]
        exact hp
      · rw [hc', State.onSup_sup, PerPort.get_set_self]
    rw [port] at unheard heard
    rw [exec_confirmTimerExpiry_of_quiet hq hc]
    have link : c.plu = s.plu := by rw [hc', State.onSup_plu]
    have cfg : c.cfg = s.cfg := by rw [hc', State.cfg, State.onSup_mi]; rfl
    rw [link, cfg] at heard
    refine ⟨fun hn => by rw [unheard (.inl hn)], fun he => ?_⟩
    obtain ⟨seen, noTakeover, takeover⟩ := heard he judged
    refine ⟨fun hv => by rw [seen hv], fun hv ha => ?_, fun hv ha => by rw [takeover hv ha]⟩
    have same : c.port p = .suspect := by
      rw [hc', State.port, State.onSup_sup, PerPort.get_set_self]
      exact hp
    rw [noTakeover hv ha, setPort_self same]
  case park =>
    have held : nextDueHolding (some p) s = none := nextDueHolding_of_quiet hq _
    rw [exec_parkTimerExpiry_of_held held, if_pos (by simp [hk, hp])]
  case absent =>
    rw [exec_startWindowExpiry_of_quiet hq hw, testBothAbsent_of_absent (p := p)]
    exact absentOwner_iff.mpr ⟨ho, hown, hpeer, ht⟩
  case present =>
    have noOwner : ∀ q, ({ s with startWindow := none } : State).absentOwner q = false := fun q =>
      Bool.eq_false_iff.mpr fun h => nobody q (absentOwner_iff.mp h)
    rw [exec_startWindowExpiry_of_quiet hq hw, testAbsent_of_not (noOwner .a), testAbsent_of_not (noOwner .b)]
  case held => rw [exec_parkTimerExpiry_of_held hq, if_pos (by simp [hk, hp])]
  case stopped => rw [exec_parkTimerExpiry_of_held hq, if_neg (by simp [hk])]

/-! ### Deadlines -/

theorem exec_drainTimerExpiry_of_quiet (hq : Quiet s) (hd : (s.tc.records.get p).drain.isSome = true) :
    exec (.drainTimerExpiry p) s = .next (drainExpires p s) := by
  have arm : exec (.drainTimerExpiry p) s =
    .next (if ((settle s).tc.records.get p).drain.isSome then drainExpires p (settle s) else settle s) := rfl
  rw [arm, settle_of_quiet hq, if_pos hd]

theorem exec_claimDeadlineExpiry_of_quiet {c : Claim} (hq : Quiet s) (hc : s.oc.findClaim c.id = some c)
    (ha : c.state = .asking) (hd : c.deadline.isSome = true) :
    exec (.claimDeadlineExpiry c.id) s = .next (endClaim c .timedOut noFlags s) := by
  have arm : exec (.claimDeadlineExpiry c.id) s = .next (match (settle s).oc.findClaim c.id with
    | some c => if c.state == .asking && c.deadline.isSome then endClaim c .timedOut noFlags (settle s) else settle s
    | none => settle s) := rfl
  rw [arm, settle_of_quiet hq, hc]
  exact congrArg _ (if_pos (by simp [ha, hd]))

/-- The end of a claim, written out. -/
theorem endClaim_eq (c : Claim) (r : AnsResult) (flags : MsgFlags) (s : State) :
    endClaim c r flags s = { s with
      plu := s.plu.set c.claimant ((s.plu.get c.claimant).handOver (.answer c.ref flags r (.claim c.id s.oc.emap)))
      oc := { s.oc with
        claims := s.oc.claims.filter fun d => d.id ≠ c.id
        extents := s.oc.extents.map fun e => if e.claim = some c.id then { e with claim := none } else e } } := by
  simp [endClaim, closeClaim, answer, handOver, State.onOc, State.onPlu, bne, Bool.beq_eq_decide_eq]

/-- The drive command table when aborts are requested for a port, written out (R111). -/
theorem abortAll_eq (p : Port) (n : Nat) (d : Dct) : d.abortAll p n = { d with
    out := d.out ++ (d.entries.filter fun e => e.origin = .server p ∧ e.abort = none).map fun e => DriveMsg.abort e.tag
    entries := d.entries.map fun e =>
      if e.origin = .server p ∧ e.abort = none then { e with cmdTimer := none, abort := some n } else e } := by
  have test (e : Entry) : (e.origin == .server p && e.abort.isNone) = decide (e.origin = .server p ∧ e.abort = none) :=
    Bool.eq_iff_iff.mpr (by simp)
  simp only [Dct.abortAll, Dct.abortable, Entry.abortFor, test, decide_eq_true_eq]
  rfl

/-- Settles O36, by the end of the claim and by the aborts of the port. -/
theorem deadlinesExpire : Obligations.DeadlinesExpire := by
  refine ⟨fun s c hq hc ha hd => ?_, fun p s hq hd => ?_⟩
  · rw [exec_claimDeadlineExpiry_of_quiet hq hc ha hd, endClaim_eq]
  · rw [exec_drainTimerExpiry_of_quiet hq hd, drainExpires, requestAborts_eq]
    simp only [State.onDct, State.onTc, abortAll_eq]
    rfl

/-! ### The intent list -/

theorem exec_intentRead_of_quiet {h : Header} {setId : Word} (hq : Quiet s) :
    exec (.intentRead p h setId) s = .next (takeIntentRead p h setId s) := by
  have arm : exec (.intentRead p h setId) s = .next (takeIntentRead p h setId (settle s)) := rfl
  rw [arm, settle_of_quiet hq]

theorem exec_intentClear_of_quiet {h : Header} {setId : Word} (hq : Quiet s) :
    exec (.intentClear p h setId) s = .next (takeIntentClear p h setId s) := by
  have arm : exec (.intentClear p h setId) s = .next (takeIntentClear p h setId (settle s)) := rfl
  rw [arm, settle_of_quiet hq]

theorem findSet_eq_none_iff {t : Tc} {setId : Word} : t.findSet setId = none ↔ ∀ x ∈ t.intents, x.setId ≠ setId := by
  simp [Tc.findSet]

theorem findSet_eq (t : Tc) (setId : Word) : t.findSet setId = t.intents.find? fun x => decide (x.setId = setId) := by
  simp only [Tc.findSet, Bool.beq_eq_decide_eq]

theorem removeSet_eq (setId : Word) (s : State) :
    removeSet setId s = { s with tc := { s.tc with intents := s.tc.intents.filter fun x => x.setId ≠ setId } } := by
  simp [removeSet, State.onTc, bne, Bool.beq_eq_decide_eq]

theorem onTc_of_eq {f : Tc → Tc} (h : f s.tc = s.tc) : s.onTc f = s := by
  rw [State.onTc, h]

/-- R160: an outcome for a set that is removed changes no set. -/
theorem takeOutcome_removed {l : List IntentSet} {setId : Word} (seq : BitVec 64) (o : IntentOutcome) {t : Tc}
    (ht : t.intents = l.filter fun x => x.setId != setId := by rfl) :
    ({ t with intents := t.intents.map fun x =>
        if x.setId == setId then { x with entries := x.entries.map (·.take seq o) } else x } : Tc) = t := by
  have same : (t.intents.map fun x =>
      if x.setId == setId then { x with entries := x.entries.map (·.take seq o) } else x) = t.intents := by
    refine (List.map_congr_left fun x hx => ?_).trans (List.map_id _)
    rw [ht, List.mem_filter] at hx
    exact if_neg (by simpa using hx.2)
  rw [same]

theorem removed_lt {l : List IntentSet} {setId : Word} (hm : ∃ x ∈ l, x.setId = setId) (hl : l.length ≤ 2) :
    (l.filter fun x => x.setId != setId).length < 2 := by
  obtain ⟨x, hx, hid⟩ := hm
  have fewer := (List.length_filter_lt_length_iff_exists (p := fun y : IntentSet => y.setId != setId)).mpr
    ⟨x, hx, by simp [hid]⟩
  omega

/-- Settles O37, by the id, the bridge state and the set of the id. -/
theorem intentSetRead : Obligations.IntentSetRead := by
  intro p h setId s hq hl
  have range : lengthInRange h.length = true := by rw [hl]; rfl
  have len : h.length.toNat = 8 := by rw [hl]; rfl
  rw [exec_intentRead_of_quiet hq]
  refine ⟨fun h0 => ?_, fun h0 hb => ?_, fun h0 hb => ?_⟩
  · rw [takeIntentRead, request_badFields range len (by simp [h0])]
  · rw [takeIntentRead, request_starting range len (by simpa using h0) hb]
  · rw [takeIntentRead, request_served range len (by simpa using h0) hb, serveIntentRead]
    refine ⟨fun none => ?_, fun x hx => ⟨fun notYet => ?_, fun whole => ?_⟩⟩
    · rw [findSet_eq_none_iff.mpr none]
    · rw [findSet_eq, hx]
      exact congrArg _ (if_pos (by simpa using notYet))
    · rw [findSet_eq, hx]
      exact congrArg _ (if_neg (by simpa using whole))

/-- Settles O38, by the id, the bridge state, the port state and the set of the id; nothing of the set is left. -/
theorem intentSetCleared : Obligations.IntentSetCleared := by
  intro p h setId s hq hl
  have range : lengthInRange h.length = true := by rw [hl]; rfl
  have len : h.length.toNat = 8 := by rw [hl]; rfl
  rw [exec_intentClear_of_quiet hq]
  refine ⟨fun h0 => ?_, fun h0 hb => ?_, fun h0 hb => ?_⟩
  · rw [takeIntentClear, request_badFields range len (by simp [h0])]
  · rw [takeIntentClear, request_starting range len (by simpa using h0) hb]
  · rw [takeIntentClear, request_served range len (by simpa using h0) hb, serveIntentClear]
    refine ⟨fun hp => ?_, fun hp none => ?_, fun hp some => ?_⟩
    · rw [if_pos (by simpa using hp)]
    · rw [if_neg (by simpa using hp), findSet_eq_none_iff.mpr none]
      rfl
    · have found : s.tc.findSet setId ≠ none := fun h0 => by
        obtain ⟨x, hx, hid⟩ := some
        exact findSet_eq_none_iff.mp h0 x hx hid
      rw [if_neg (by simpa using hp), if_neg (by simpa using found)]
      refine ⟨_, rfl, ?_, fun seq o => ?_, fun hle => ?_⟩
      · rw [removeSet_eq]
      · exact onTc_of_eq (takeOutcome_removed seq o)
      · exact if_pos (removed_lt some hle)

/-! ### The queries -/

theorem exec_mapQuery_of_quiet {h : Header} {f n : Word} (hq : Quiet s) :
    exec (.mapQuery p h f n) s = .next (takeMapQuery p h f n s) := by
  have arm : exec (.mapQuery p h f n) s = .next (takeMapQuery p h f n (settle s)) := rfl
  rw [arm, settle_of_quiet hq]

theorem exec_stateQuery_of_quiet {h : Header} (hq : Quiet s) :
    exec (.stateQuery p h) s = .next (takeStateQuery p h s) := by
  have arm : exec (.stateQuery p h) s = .next (takeStateQuery p h (settle s)) := rfl
  rw [arm, settle_of_quiet hq]

/-- Settles O39, by the tests of MAP QUERY in their order, and by the fields of the view. -/
theorem queriesServed : Obligations.QueriesServed := by
  refine ⟨fun p h f n s c m hq hl hf hn hc hm => ?map, fun p h s v hq hl hv => ?state⟩
  case map =>
    have range : lengthInRange h.length = true := by rw [hl]; rfl
    have len : h.length.toNat = 10 := by rw [hl]; rfl
    have fields : (decide (f ≤ 1023#16) && n != 0) = true := by simpa using ⟨hf, hn⟩
    have cleared : (if lengthInRange h.length then clearHandover p s else s) = c := by rw [if_pos range, hc]; rfl
    have oc : c.oc = s.oc := by rw [hc, State.onPlu_oc]
    have ic : c.ic = s.ic := by rw [hc, State.onPlu_ic]
    rw [exec_mapQuery_of_quiet hq, takeMapQuery, cleared]
    refine ⟨fun h0 => ?_, fun hb hx => ⟨fun hE => ?_, fun hE => ?_⟩⟩
    · rcases h0 with hb | hx
      · rw [request_starting range len fields (by rw [ic, hb]), State.emptyView]
      · by_cases hb : c.ic.bridge = .starting
        · rw [request_starting range len fields hb, State.emptyView]
        · rw [request_served range len fields hb, serveMapQuery, if_pos (by simp [State.extentCount, oc, hx]),
            State.emptyView, oc]
    · have some : ¬ c.extentCount = 0 := by simpa [State.extentCount, oc] using hx
      rw [request_served range len fields (by rwa [ic]), serveMapQuery, if_neg some,
        if_pos (by simpa [State.extentCount, oc] using hE), State.emptyView, oc]
    · have some : ¬ c.extentCount = 0 := by simpa [State.extentCount, oc] using hx
      have served : c.served f.toNat n.toNat = m := by rw [hm, State.served, State.extentCount, oc]
      rw [request_served range len fields (by rwa [ic]), serveMapQuery, if_neg some,
        if_neg (by simpa [State.extentCount, oc] using hE), State.mapView, served, State.extentCount, oc]
      rfl
  case state =>
    have range : lengthInRange h.length = true := by rw [hl]; rfl
    have len : h.length.toNat = 6 := by rw [hl]; rfl
    have view : s.view p = v := by
      rw [hv, State.view, State.orphan]
      simp [State.blockSize, State.extentCount, IntentSet.summary, Oc.claimOf, bne, Bool.beq_eq_decide_eq, Bool.and_assoc]
      cases s.dct.firstAttach <;> rfl
    rw [exec_stateQuery_of_quiet hq, takeStateQuery, byLength_right range len, view]

end Sys2Proof.Machine
end

section
/-! Proofs about the requests that change ownership: their fields (R24, R29), CLAIM, YIELD, KEEP (R67 to R71). -/

namespace Sys2Proof.Machine

/- Declarations are elaborated one after another, which keeps the check within its memory. -/
set_option Elab.async false

variable {p : Port} {h : Header} {s : State}

/-! ### A message command with nothing due before it -/

theorem exec_enrol_of_quiet {ep : Epoch} (hq : Quiet s) : exec (.enrol p h ep) s = .next (takeEnrol p h ep s) := by
  have arm : exec (.enrol p h ep) s = .next (takeEnrol p h ep (settle s)) := rfl
  rw [arm, settle_of_quiet hq]

theorem exec_park_of_quiet (hq : Quiet s) : exec (.park p h) s = .next (takePark p h s) := by
  have arm : exec (.park p h) s = .next (takePark p h (settle s)) := rfl
  rw [arm, settle_of_quiet hq]

theorem exec_claim_of_quiet {f n : Word} (hq : Quiet s) : exec (.claim p h f n) s = .next (takeClaim p h f n s) := by
  have arm : exec (.claim p h f n) s = .next (takeClaim p h f n (settle s)) := rfl
  rw [arm, settle_of_quiet hq]

theorem exec_yieldClaim_of_quiet {id : Byte} (hq : Quiet s) :
    exec (.yieldClaim p h id) s = .next (takeYield p h id s) := by
  have arm : exec (.yieldClaim p h id) s = .next (takeYield p h id (settle s)) := rfl
  rw [arm, settle_of_quiet hq]

theorem exec_keepClaim_of_quiet {id : Byte} (hq : Quiet s) : exec (.keepClaim p h id) s = .next (takeKeep p h id s) := by
  have arm : exec (.keepClaim p h id) s = .next (takeKeep p h id (settle s)) := rfl
  rw [arm, settle_of_quiet hq]

theorem exec_disclaim_of_quiet {f n : Word} (hq : Quiet s) :
    exec (.disclaim p h f n) s = .next (takeDisclaim p h f n s) := by
  have arm : exec (.disclaim p h f n) s = .next (takeDisclaim p h f n (settle s)) := rfl
  rw [arm, settle_of_quiet hq]

theorem exec_setPolicy_of_quiet {f n : Word} {code : Byte} (hq : Quiet s) :
    exec (.setPolicy p h f n code) s = .next (takeSetPolicy p h f n code s) := by
  have arm : exec (.setPolicy p h f n code) s = .next (takeSetPolicy p h f n code (settle s)) := rfl
  rw [arm, settle_of_quiet hq]

/-! ### Lengths and fields -/

/-- The length of a message is the one that its kind has. -/
def HasLength (h : Header) (n : Nat) : Prop := lengthInRange h.length = true ∧ h.length.toNat = n

theorem hasLength_of_eq {l : Word} {n : Nat} (hl : h.length = l) (hr : lengthInRange l = true := by decide)
    (hn : l.toNat = n := by decide) : HasLength h n := ⟨hl ▸ hr, hl ▸ hn⟩

theorem runFieldsOk_iff {f n : Word} : runFieldsOk f n = true ↔ f ≤ 1023#16 ∧ 1#16 ≤ n ∧ n ≤ 1024#16 := by
  simp [runFieldsOk, and_assoc]

theorem runFieldsOk_eq_false {f n : Word} (hb : 1023#16 < f ∨ n = 0 ∨ 1024#16 < n) : runFieldsOk f n = false := by
  rw [Bool.eq_false_iff, ne_eq, runFieldsOk_iff]
  bv_omega

theorem policyOfCode_isSome {code : Byte} : (policyOfCode code).isSome = true ↔ code ≤ 1#8 := by
  unfold policyOfCode
  split
  · next h0 => simp [h0]
  · next h0 =>
    split
    · next h1 => simp [h1]
    · next h1 =>
      simp only [Option.isSome_none, Bool.false_eq_true, false_iff]
      bv_omega

theorem portOfCode_ne {code : Byte} (hc : code ≠ portCode p) : portOfCode code ≠ some p := by
  intro h
  unfold portOfCode at h
  split at h
  · next ha => exact hc (by rw [ha, ← Option.some.inj h]; rfl)
  · split at h
    · next hb => exact hc (by rw [hb, ← Option.some.inj h]; rfl)
    · exact absurd h (by simp)

@[simp] theorem handOver_handover (m : OutMsg) (u : Plu) : (u.handOver m).handover = u.handover := by
  unfold Plu.handOver
  split <;> rfl

/-- R24: a request of wrong length is answered INVALID, whatever its fields. -/
theorem request_wrongLength {len : Nat} {ok : Bool} {wrongBody body : AnswerBody} {serve : State → State} 
    (hr : lengthInRange h.length = true) (hl : h.length.toNat ≠ len) :
    request p h len ok wrongBody body serve s = answer p h.ref noFlags .invalid wrongBody s :=
  byLength_wrong hr hl

/-- Settles O22: each request through its length, its fields and the test of STARTING. -/
theorem requestFieldsTested : Obligations.RequestFieldsTested := by
  intro p h f n setId id code s hq
  refine ⟨fun hl hb => ?runs, fun hl hb => ?policy, fun hl hb => ?map, fun hl hb => ?takeover, fun hl => ?ids,
    fun hs => ⟨fun hl hf h1 hn => ?runsStarting, fun hl hf h1 hn hc => ?policyStarting, fun hl hid => ?idsStarting,
    fun hl => ?takeoverStarting, fun hl => ?parkStarting, fun hl hid => ?clearStarting⟩,
    fun len c body h6 h4106 hl hc => ?length, fun h6 h4106 hl => ?mapLength⟩
  case runs =>
    obtain ⟨range, len⟩ := hasLength_of_eq hl (n := 10)
    rw [exec_claim_of_quiet hq, exec_disclaim_of_quiet hq]
    exact ⟨congrArg _ (request_badFields range len (runFieldsOk_eq_false hb)),
      congrArg _ (request_badFields range len (runFieldsOk_eq_false hb))⟩
  case policy =>
    obtain ⟨range, len⟩ := hasLength_of_eq hl (n := 11)
    rw [exec_setPolicy_of_quiet hq]
    refine congrArg _ (request_badFields range len ?_)
    rw [Bool.eq_false_iff, ne_eq, Bool.and_eq_true, runFieldsOk_iff, policyOfCode_isSome]
    bv_omega
  case map =>
    obtain ⟨range, len⟩ := hasLength_of_eq hl (n := 10)
    refine ⟨_, exec_mapQuery_of_quiet hq, ?_⟩
    have taken : takeMapQuery p h f n s = answer p h.ref noFlags .invalid (.mapQuery s.emptyView) (clearHandover p s) := by
      rw [takeMapQuery, if_pos range]
      refine request_badFields range len ?_
      rw [Bool.eq_false_iff]
      simp
      bv_omega
    rw [taken]
    refine ⟨?_, rfl⟩
    rw [answer, handOver_plu, PerPort.get_set_self, handOver_handover, clearHandover, State.onPlu_plu, PerPort.get_set_self]
  case takeover =>
    obtain ⟨range, len⟩ := hasLength_of_eq hl (n := 7)
    refine ⟨targetField code, ?_⟩
    rw [exec_takeover_of_quiet hq]
    refine congrArg _ (request_badFields range len ?_)
    simpa using portOfCode_ne hb
  case ids =>
    obtain ⟨range, len⟩ := hasLength_of_eq hl (n := 7)
    rw [exec_yieldClaim_of_quiet hq, exec_keepClaim_of_quiet hq]
    exact ⟨congrArg _ (request_badFields range len rfl), congrArg _ (request_badFields range len rfl)⟩
  case runsStarting =>
    obtain ⟨range, len⟩ := hasLength_of_eq hl (n := 10)
    rw [exec_claim_of_quiet hq, exec_disclaim_of_quiet hq]
    have fields := runFieldsOk_iff.mpr ⟨hf, h1, hn⟩
    exact ⟨congrArg _ (request_starting range len fields hs), congrArg _ (request_starting range len fields hs)⟩
  case policyStarting =>
    obtain ⟨range, len⟩ := hasLength_of_eq hl (n := 11)
    rw [exec_setPolicy_of_quiet hq]
    refine congrArg _ (request_starting range len ?_ hs)
    rw [Bool.and_eq_true, runFieldsOk_iff, policyOfCode_isSome]
    exact ⟨⟨hf, h1, hn⟩, hc⟩
  case idsStarting =>
    obtain ⟨range, len⟩ := hasLength_of_eq hl (n := 7)
    rw [exec_yieldClaim_of_quiet hq, exec_keepClaim_of_quiet hq]
    exact ⟨congrArg _ (request_starting range len (by simpa using hid) hs),
      congrArg _ (request_starting range len (by simpa using hid) hs)⟩
  case takeoverStarting =>
    obtain ⟨range, len⟩ := hasLength_of_eq hl (n := 7)
    rw [exec_takeover_of_quiet hq, takeTakeover, request_starting range len (by simp) hs, targetField, portOfCode_portCode]
    rfl
  case parkStarting =>
    obtain ⟨range, len⟩ := hasLength_of_eq hl (n := 6)
    rw [exec_park_of_quiet hq]
    exact congrArg _ (request_starting range len rfl hs)
  case clearStarting =>
    obtain ⟨range, len⟩ := hasLength_of_eq hl (n := 8)
    rw [exec_intentClear_of_quiet hq]
    exact congrArg _ (request_starting range len (by simpa using hid) hs)
  case length =>
    have range := lengthInRange_iff.mpr ⟨h6, h4106⟩
    have len' : h.length.toNat ≠ len.toNat := fun he => hl (BitVec.eq_of_toNat_eq he)
    rcases hc with ⟨rfl, ⟨ep, rfl⟩, rfl⟩ | ⟨rfl, rfl, rfl⟩ | ⟨rfl, rfl, rfl⟩ | ⟨rfl, rfl, rfl⟩ | ⟨rfl, rfl, rfl⟩ |
      ⟨rfl, rfl, rfl⟩ | ⟨rfl, rfl, rfl⟩ | ⟨rfl, rfl, rfl⟩ | ⟨rfl, rfl, rfl⟩ | ⟨rfl, rfl, rfl⟩ | ⟨rfl, rfl, rfl⟩
    · rw [exec_enrol_of_quiet hq]
      exact congrArg _ (request_wrongLength range len')
    · rw [exec_park_of_quiet hq]
      exact congrArg _ (request_wrongLength range len')
    · rw [exec_claim_of_quiet hq]
      exact congrArg _ (request_wrongLength range len')
    · rw [exec_yieldClaim_of_quiet hq]
      exact congrArg _ (request_wrongLength range len')
    · rw [exec_keepClaim_of_quiet hq]
      exact congrArg _ (request_wrongLength range len')
    · rw [exec_disclaim_of_quiet hq]
      exact congrArg _ (request_wrongLength range len')
    · rw [exec_setPolicy_of_quiet hq]
      exact congrArg _ (request_wrongLength range len')
    · rw [exec_takeover_of_quiet hq]
      exact congrArg _ (request_wrongLength range len')
    · rw [exec_intentRead_of_quiet hq]
      exact congrArg _ (request_wrongLength range len')
    · rw [exec_intentClear_of_quiet hq]
      exact congrArg _ (request_wrongLength range len')
    · rw [exec_stateQuery_of_quiet hq]
      exact congrArg _ (byLength_wrong range len')
  case mapLength =>
    have range := lengthInRange_iff.mpr ⟨h6, h4106⟩
    rw [exec_mapQuery_of_quiet hq, takeMapQuery, if_pos range]
    exact congrArg _ (request_wrongLength range fun he => hl (BitVec.eq_of_toNat_eq he))

end Sys2Proof.Machine
end

section
/-! Proofs about claims: the extents that a step takes, CLAIM, YIELD and KEEP (R67 to R71). -/

namespace Sys2Proof.Machine

/- Declarations are elaborated one after another, which keeps the check within its memory. -/
set_option Elab.async false

variable {p : Port} {h : Header} {s : State}

/-! ### Runs of extents -/

theorem mem_runIndexes {o : Oc} {f n x : Nat} : x ∈ o.runIndexes f n ↔ x < o.extents.length ∧ f ≤ x ∧ x < f + n := by
  simp [Oc.runIndexes, inRun]

theorem runIndexes_pairwise (o : Oc) (f n : Nat) : (o.runIndexes f n).Pairwise (· < ·) :=
  List.pairwise_lt_range.filter _

theorem mem_unowned {o : Oc} {f n x : Nat} :
    x ∈ o.unowned f n ↔ f ≤ x ∧ x < f + n ∧ ∃ e, o.extents[x]? = some e ∧ e.owner = none := by
  have run : o.unowned f n = (o.runIndexes f n).filter fun x => match o.extents[x]? with
    | some e => e.owner == none
    | none => false := rfl
  rw [run, List.mem_filter, mem_runIndexes]
  cases hx : o.extents[x]? with
  | none => simp
  | some e =>
    have inside : x < o.extents.length := (List.getElem?_eq_some_iff.mp hx).1
    simp [inside, and_assoc]

theorem unowned_pairwise (o : Oc) (f n : Nat) : (o.unowned f n).Pairwise (· < ·) :=
  (List.pairwise_lt_range.filter _).filter _

theorem mapIdx_congr {α β : Type} {l : List α} {f g : Nat → α → β} (h : ∀ x e, l[x]? = some e → f x e = g x e) :
    l.mapIdx f = l.mapIdx g := by
  rw [List.mapIdx_eq_mapIdx_iff]
  exact fun i hi => h i l[i] (List.getElem?_eq_getElem hi)

/-! ### Steps -/

/-- R59: a step that starts over the extents of a set, its marks given by a condition on the extents. -/
theorem startStep_eq {kind : StepKind} {dest : Option Port} {xs : List Nat} {port : Option Port} {ref : Option Word}
    {marked : Nat → Extent → Prop} [∀ x e, Decidable (marked x e)]
    (hx : ∀ x e, s.oc.extents[x]? = some e → (x ∈ xs ↔ marked x e)) :
    startStep kind dest xs port ref s = { s with oc := { s.oc with
      extents := s.oc.extents.mapIdx fun x e => if marked x e then { e with mark := some ⟨kind, dest⟩ } else e
      steps := s.oc.steps ++ [⟨s.oc.nextStep, kind, some dest, xs, port, ref, .quiesce, none⟩]
      nextStep := s.oc.nextStep + 1 } } := by
  have marks : (s.oc.extents.mapIdx fun x e => if xs.contains x then { e with mark := some ⟨kind, dest⟩ } else e) =
      s.oc.extents.mapIdx fun x e => if marked x e then { e with mark := some ⟨kind, dest⟩ } else e :=
    mapIdx_congr fun x e he => by simp only [List.contains_iff_mem, hx x e he]
  simp only [startStep, State.onOc, mapExtents, marks]

theorem saturated_iff : s.saturated = true ↔ s.oc.emap = BitVec.allOnes 32 := by
  simp [State.saturated, Config.maxEpoch]

theorem saturated_eq_false (hs : s.oc.emap ≠ BitVec.allOnes 32) : s.saturated = false :=
  Bool.eq_false_iff.mpr fun h => hs (saturated_iff.mp h)

/-! ### YIELD and KEEP -/

theorem find?_of_unique {α : Type} {l : List α} {P : α → Bool} {c : α} (hm : c ∈ l) (hc : P c = true)
    (one : ∀ d ∈ l, P d = true → d = c) : l.find? P = some c := by
  cases h : l.find? P with
  | none => exact absurd hc (List.find?_eq_none.mp h c hm)
  | some d => rw [one d (List.mem_of_find?_eq_some h) (List.find?_some h)]

theorem holder_eq_iff_peer {c : Claim} : c.holder = p ↔ c.claimant = p.peer := by
  rw [Claim.holder]
  cases c.claimant <;> cases p <;> decide

theorem askedOf_eq_none {o : Oc} {id : Byte}
    (hn : ∀ c ∈ o.claims, ¬(c.id = id ∧ c.state = .asking ∧ c.claimant = p.peer)) : o.askedOf p id = none := by
  simp only [Oc.askedOf, List.find?_eq_none, Bool.and_eq_true, beq_iff_eq, holder_eq_iff_peer, and_assoc]
  exact hn

theorem askedOf_eq_some {o : Oc} {id : Byte} {c : Claim} (hm : c ∈ o.claims) (hid : c.id = id) (ha : c.state = .asking)
    (hc : c.claimant = p.peer) (one : ∀ d ∈ o.claims, d.id = id → d = c) : o.askedOf p id = some c :=
  find?_of_unique hm (by simp [hid, ha, holder_eq_iff_peer, hc])
    fun d hd hP => one d hd (by simp only [Bool.and_eq_true, beq_iff_eq] at hP; exact hP.1.1)

theorem consentTest_halted (hb : s.ic.bridge = .halted) : s.consentTest = some .refused := by
  simp [State.consentTest, hb]

theorem consentTest_recovery (hb : s.ic.bridge = .recovery) : s.consentTest = some .notReady := by
  simp [State.consentTest, hb]

theorem consentTest_service (hb : s.ic.bridge = .service) : s.consentTest = none := by
  simp [State.consentTest, hb]

theorem takeKeep_served {id : Byte} (hl : h.length = 7#16) (hid : id ≠ 0) (hb : s.ic.bridge ≠ .starting) :
    takeKeep p h id s = serveKeep p h id s := by
  obtain ⟨range, len⟩ := hasLength_of_eq hl (n := 7)
  exact request_served range len (by simpa using hid) hb

theorem takeYield_served {id : Byte} (hl : h.length = 7#16) (hid : id ≠ 0) (hb : s.ic.bridge ≠ .starting) :
    takeYield p h id s = serveYield p h id s := by
  obtain ⟨range, len⟩ := hasLength_of_eq hl (n := 7)
  exact request_served range len (by simpa using hid) hb

/-- The end of the claim of the peer, and the answer to the port that ended it. -/
theorem answer_endClaim_eq {c : Claim} {r : AnsResult} {flags : MsgFlags} {r' : AnsResult} {body : AnswerBody} {ref : Word}
    (hc : c.claimant = p.peer) : answer p ref noFlags r' body (endClaim c r flags s) = { s with
      plu := (s.plu.set p.peer ((s.plu.get p.peer).handOver (.answer c.ref flags r (.claim c.id s.oc.emap)))).set p
        ((s.plu.get p).handOver (.answer ref noFlags r' body))
      oc := { s.oc with
        claims := s.oc.claims.filter fun d => d.id ≠ c.id
        extents := s.oc.extents.map fun e => if e.claim = some c.id then { e with claim := none } else e } } := by
  rw [endClaim_eq, hc]
  simp only [answer, handOver, State.onPlu, PerPort.get_peer_set]

/-- Settles O26, by the tests of KEEP in their order. -/
theorem keepServed : Obligations.KeepServed := by
  intro p h id s hq hl
  obtain ⟨range, len⟩ := hasLength_of_eq hl (n := 7)
  rw [exec_keepClaim_of_quiet hq]
  refine ⟨fun h0 => ?_, fun h0 hb => ?_, fun h0 hb => ?_, fun h0 hb => ?_, fun h0 hb => ⟨fun hn => ?_,
    fun c hm hid ha hc one => ?_⟩⟩
  · exact congrArg _ (request_badFields range len (by simp [h0]))
  · exact congrArg _ (request_starting range len (by simpa using h0) hb)
  · rw [takeKeep_served hl h0 (by simp [hb]), serveKeep, consentTest_halted hb]
  · rw [takeKeep_served hl h0 (by simp [hb]), serveKeep, consentTest_recovery hb]
  · rw [takeKeep_served hl h0 (by simp [hb]), serveKeep, consentTest_service hb, askedOf_eq_none hn]
  · rw [takeKeep_served hl h0 (by simp [hb]), serveKeep, consentTest_service hb, askedOf_eq_some hm hid ha hc one]
    exact congrArg _ ((answer_endClaim_eq hc).trans (by rw [hid]))

theorem claimBlocked_iff {o : Oc} {c : Claim} : o.claimBlocked c = true ↔
    ∃ e ∈ (o.extents.drop c.first).take c.count,
      e.mark ≠ none ∨ ∃ u ∈ o.steps, u.stage = .waiting ∧ concernedIn u.kind u.port e = true := by
  simp [Oc.claimBlocked, Oc.run, Option.isSome_iff_ne_none]

theorem claimBlocked_eq_false {o : Oc} {c : Claim} (h : ∀ e ∈ (o.extents.drop c.first).take c.count,
    e.mark = none ∧ ∀ u ∈ o.steps, u.stage = .waiting → concernedIn u.kind u.port e = false) :
    o.claimBlocked c = false := by
  rw [Bool.eq_false_iff, ne_eq, claimBlocked_iff]
  rintro ⟨e, he, hm | ⟨u, hu, hw, hk⟩⟩
  · exact hm (h e he).1
  · exact absurd hk (by simp [(h e he).2 u hu hw])

/-- R70: the CLAIM step of a claim takes every extent of its run. -/
theorem transferClaim_run_eq (c : Claim) (s : State) :
    transferClaim c (s.oc.runIndexes c.first c.count) s = { s with oc := { s.oc with
      claims := s.oc.claims.map fun d =>
        if d.id = c.id then { d with state := .transferring, deadline := none, step := some s.oc.nextStep, owed := false }
        else d
      extents := s.oc.extents.mapIdx fun x e =>
        if c.first ≤ x ∧ x < c.first + c.count then { e with mark := some ⟨.claim, some c.claimant⟩ } else e
      steps := s.oc.steps ++ [⟨s.oc.nextStep, .claim, some (some c.claimant), s.oc.runIndexes c.first c.count,
        some c.claimant, none, .quiesce, none⟩]
      nextStep := s.oc.nextStep + 1 } } := by
  rw [transferClaim, startStep_eq (marked := fun x _ => c.first ≤ x ∧ x < c.first + c.count)]
  · simp [changeClaim, State.onOc]
  · intro x e he
    have inside : x < s.oc.extents.length := (List.getElem?_eq_some_iff.mp he).1
    simp [mem_runIndexes, inside]

/-- Settles O25, by the tests of YIELD in their order; its step takes all the claim's extents. -/
theorem yieldServed : Obligations.YieldServed := by
  intro p h id s hq hl h0
  rw [exec_yieldClaim_of_quiet hq]
  refine ⟨fun hb => ?_, fun hb => ?_, fun hb => ⟨fun hn => ?_, fun c hm hid ha hc one => ?_⟩⟩
  · rw [takeYield_served hl h0 (by simp [hb]), serveYield, consentTest_halted hb]
  · rw [takeYield_served hl h0 (by simp [hb]), serveYield, consentTest_recovery hb]
  · rw [takeYield_served hl h0 (by simp [hb]), serveYield, consentTest_service hb, askedOf_eq_none hn]
  rw [takeYield_served hl h0 (by simp [hb]), serveYield, consentTest_service hb, askedOf_eq_some hm hid ha hc one]
  dsimp only
  refine ⟨fun hx => ?_, fun hx => ⟨fun hs => ?_, fun hs => ?_⟩⟩
  · rw [yieldOn, if_pos (claimBlocked_iff.mpr hx), hid]
  · rw [yieldOn, claimBlocked_eq_false hx, if_neg Bool.false_ne_true, if_pos (saturated_iff.mpr hs), answer_endClaim_eq hc, hid]
    exact ⟨_, rfl, rfl, rfl, rfl⟩
  · refine ⟨s.oc.runIndexes c.first c.count, runIndexes_pairwise _ _ _, fun x => ?_, ?_⟩
    · rw [mem_runIndexes, and_comm, and_assoc]
    · rw [yieldOn, claimBlocked_eq_false hx, saturated_eq_false hs, transferClaim_run_eq]
      simp only [hid, hc]
      rfl

end Sys2Proof.Machine
end

section
/-! Proofs about CLAIM, DISCLAIM and SET POLICY: their tests in order, and what each does when they pass (R67 to R69, R76,
R77). -/

namespace Sys2Proof.Machine

/- Declarations are elaborated one after another, which keeps the check within its memory. -/
set_option Elab.async false

variable {p : Port} {h : Header} {s : State} {f n : Nat}

/-! ### The tests of CLAIM -/

theorem claimOf_isSome_iff {o : Oc} : (o.claimOf p).isSome = true ↔ ∃ c ∈ o.claims, c.claimant = p := by
  simp [Oc.claimOf]

theorem claimOf_eq_none {o : Oc} (hc : ∀ c ∈ o.claims, c.claimant ≠ p) : o.claimOf p = none := by
  simpa [Oc.claimOf] using hc

theorem needsMoving_iff {es : List Extent} : needsMoving p es = true ↔ ∃ e ∈ es, e.owner ≠ some p := by
  simp [needsMoving]

theorem anyTaken_iff {es : List Extent} :
    (es.any fun e => e.claim.isSome || e.mark.isSome) = true ↔ ∃ e ∈ es, e.claim ≠ none ∨ e.mark ≠ none := by
  simp [Option.isSome_iff_ne_none]

theorem anyTaken_eq_false {es : List Extent} (hf : ∀ e ∈ es, e.claim = none ∧ e.mark = none) :
    (es.any fun e => e.claim.isSome || e.mark.isSome) = false := by
  rw [Bool.eq_false_iff, ne_eq, anyTaken_iff]
  rintro ⟨e, he, hc | hm⟩
  · exact hc (hf e he).1
  · exact hm (hf e he).2

theorem serveClaim_refused {r : AnsResult} (ht : s.claimTest p f n = some r) (hr : r ≠ .exhausted) :
    serveClaim p h f n s = answer p h.ref noFlags r (.claim 0 s.oc.emap) s := by
  have calm : (r == .exhausted) = false := by simpa using hr
  rw [serveClaim, ht]
  simp only [calm, raiseIf]
  rfl

theorem serveClaim_exhausted (ht : s.claimTest p f n = some .exhausted) :
    serveClaim p h f n s = answer p h.ref noFlags .exhausted (.claim 0 s.oc.emap) (raise .epochExhausted s) := by
  rw [serveClaim, ht]
  rfl

section InService

variable (hb : s.ic.bridge = .service) (hp : s.port p = .enrolled) (hE : f + n ≤ s.oc.extents.length)

include hb hp hE

theorem claimTest_inService : s.claimTest p f n =
    if (s.oc.claimOf p).isSome then some .busy
    else if (s.oc.run f n).any (fun e => e.claim.isSome || e.mark.isSome) then some .conflict
    else if needsMoving p (s.oc.run f n) && s.saturated then some .exhausted
    else none := by
  have inside : ¬ s.extentCount < f + n := by simpa [State.extentCount] using hE
  simp [State.claimTest, hb, hp, inside]

theorem claimTest_free (hc : ∀ c ∈ s.oc.claims, c.claimant ≠ p)
    (hf : ∀ e ∈ (s.oc.extents.drop f).take n, e.claim = none ∧ e.mark = none) : s.claimTest p f n =
      if needsMoving p (s.oc.run f n) && s.saturated then some .exhausted else none := by
  rw [claimTest_inService hb hp hE, claimOf_eq_none hc, Oc.run, anyTaken_eq_false hf]
  rfl

end InService

theorem takeClaim_served {f n : Word} (hl : h.length = 10#16) (hf : f ≤ 1023#16) (h1 : 1#16 ≤ n) (hn : n ≤ 1024#16)
    (hb : s.ic.bridge ≠ .starting) : takeClaim p h f n s = serveClaim p h f.toNat n.toNat s := by
  obtain ⟨range, len⟩ := hasLength_of_eq hl (n := 10)
  exact request_served range len (runFieldsOk_iff.mpr ⟨hf, h1, hn⟩) hb

/-- R68: a CLAIM step takes the extents of the run that no port owns. -/
theorem startStep_unowned_eq {port : Option Port} {dest : Option Port} {ref : Option Word} :
    startStep .claim dest (s.oc.unowned f n) port ref s = { s with oc := { s.oc with
      extents := s.oc.extents.mapIdx fun x e =>
        if f ≤ x ∧ x < f + n ∧ e.owner = none then { e with mark := some ⟨.claim, dest⟩ } else e
      steps := s.oc.steps ++ [⟨s.oc.nextStep, .claim, some dest, s.oc.unowned f n, port, ref, .quiesce, none⟩]
      nextStep := s.oc.nextStep + 1 } } :=
  startStep_eq (marked := fun x e => f ≤ x ∧ x < f + n ∧ e.owner = none) fun x e he => by simp [mem_unowned, he]

/-- Settles O23: the tests in their order, and then a grant at once or a step over the extents that no port owns. -/
theorem claimServed : Obligations.ClaimServed := by
  refine ⟨fun p h f n s es hq hl hf h1 hn he => ?tests, fun p h f n s hq hl hf h1 hn hb hp hE hc hx => ?passed⟩
  case tests =>
    rw [exec_claim_of_quiet hq]
    refine ⟨fun hb => ?_, fun hb => ?_, fun hb => ⟨fun hp => ?_, fun hp hE => ?_, fun hp hE => ⟨fun hc => ?_,
      fun hc hx => ?_, fun hc hx hm hs => ?_⟩⟩⟩ <;>
      rw [takeClaim_served hl hf h1 hn (by simp [hb])]
    · exact congrArg _ (serveClaim_refused (by simp [State.claimTest, hb]) (by decide))
    · exact congrArg _ (serveClaim_refused (by simp [State.claimTest, hb]) (by decide))
    · exact congrArg _ (serveClaim_refused (by simp [State.claimTest, hb, hp]) (by decide))
    · exact congrArg _ (serveClaim_refused (by simp [State.claimTest, hb, hp, State.extentCount, hE]) (by decide))
    · refine congrArg _ (serveClaim_refused ?_ (by decide))
      rw [claimTest_inService hb hp hE, if_pos (claimOf_isSome_iff.mpr hc)]
    · refine congrArg _ (serveClaim_refused ?_ (by decide))
      rw [he] at hx
      rw [claimTest_inService hb hp hE, claimOf_eq_none hc, Oc.run, anyTaken_iff.mpr hx]
      rfl
    · refine congrArg _ (serveClaim_exhausted ?_)
      rw [he] at hx hm
      rw [claimTest_free hb hp hE hc hx, Oc.run, needsMoving_iff.mpr hm, saturated_iff.mpr hs]
      rfl
  case passed =>
    have free := claimTest_free hb hp hE hc fun e he => ⟨(hx e he).1, (hx e he).2.1⟩
    have unheld : ¬ ((s.oc.run f.toNat n.toNat).any fun e => e.owner == some p.peer) = true := by
      simpa [Oc.run] using fun e he => (hx e he).2.2
    rw [exec_claim_of_quiet hq, takeClaim_served hl hf h1 hn (by simp [hb])]
    refine ⟨fun own => ?_, fun ⟨e, he, ho⟩ hs => ⟨s.oc.unowned f.toNat n.toNat, unowned_pairwise _ _ _,
      fun x => mem_unowned, ?_⟩⟩
    · have still : needsMoving p (s.oc.run f.toNat n.toNat) = false :=
        Bool.eq_false_iff.mpr fun hm => by
          obtain ⟨e, he, ho⟩ := needsMoving_iff.mp hm
          exact ho (own e he)
      rw [serveClaim, free, still, Bool.false_and, if_neg Bool.false_ne_true]
      dsimp only
      rw [if_neg unheld, claimUnheld, still, if_neg Bool.false_ne_true]
    · have moves : needsMoving p (s.oc.run f.toNat n.toNat) = true := needsMoving_iff.mpr ⟨e, he, by simp [ho]⟩
      rw [serveClaim, free, saturated_eq_false hs, Bool.and_false, if_neg Bool.false_ne_true]
      dsimp only
      rw [if_neg unheld, claimUnheld, moves, if_pos rfl, startStep_unowned_eq]

/-! ### A claim recorded -/

theorem nextClaimId_eq {o : Oc} {id : Byte}
    (hfree : (∀ c ∈ o.claims, c.id ≠ succClaimId o.lastClaimId) → id = succClaimId o.lastClaimId)
    (htaken : (∃ c ∈ o.claims, c.id = succClaimId o.lastClaimId) → id = succClaimId (succClaimId o.lastClaimId)) :
    o.nextClaimId = id := by
  unfold Oc.nextClaimId
  split
  · next h => exact (htaken (by simpa using h)).symm
  · next h => exact (hfree (by simpa using h)).symm

theorem succClaimId_ne (id : Byte) : succClaimId id ≠ id := by
  unfold succClaimId
  split
  · next h => rw [h]; decide
  · bv_omega

/-- R69: the id taken is no open claim's, for at most one other claim is open. -/
theorem nextClaimId_fresh {o : Oc} (hone : o.claims.length ≤ 1) : ∀ c ∈ o.claims, c.id ≠ o.nextClaimId := by
  unfold Oc.nextClaimId
  split
  · next taken =>
    obtain ⟨d, hd, hid⟩ := List.any_eq_true.mp taken
    intro c hc
    have same : c = d := by
      obtain ⟨i, hi, rfl⟩ := List.getElem_of_mem hc
      obtain ⟨j, hj, rfl⟩ := List.getElem_of_mem hd
      have : i = j := by omega
      simp only [this]
    rw [same, eq_of_beq hid]
    exact (succClaimId_ne _).symm
  · next free => simpa using free

/-- R69: a claim recorded, before its holder is asked. -/
def State.withClaim (s : State) (c : Claim) : State :=
  { s with oc := { s.oc with
    claims := s.oc.claims ++ [c], lastClaimId := c.id
    extents := s.oc.extents.mapIdx fun x e =>
      if c.first ≤ x ∧ x < c.first + c.count then { e with claim := some c.id } else e } }

theorem recordClaim_eq (ref : Word) : recordClaim p ref f n s =
    if s.port p.peer = .fenced ∨ s.port p.peer = .parking then
      s.withClaim ⟨s.oc.nextClaimId, p, f, n, ref, none, .waiting, none, false⟩
    else askHolder ⟨s.oc.nextClaimId, p, f, n, ref, none, .waiting, none, false⟩
      (s.withClaim ⟨s.oc.nextClaimId, p, f, n, ref, none, .waiting, none, false⟩) := by
  simp only [recordClaim, State.withClaim, State.onOc, mapExtents, inRun, Bool.or_eq_true, Bool.and_eq_true,
    decide_eq_true_eq]
  rfl

/-- R69: the holder of a claim just recorded is asked. -/
theorem askHolder_withClaim {c : Claim} (fresh : ∀ d ∈ s.oc.claims, d.id ≠ c.id) :
    askHolder c (s.withClaim c) = { s with
      plu := s.plu.set c.holder ((s.plu.get c.holder).handOver (.releaseAsk c.id c.claimant c.first c.count s.cfg.tRel))
      oc := { (s.withClaim c).oc with
        claims := s.oc.claims ++ [{ c with state := .asking, deadline := some s.cfg.tRel, step := none, owed := false }] } } := by
  have others : (s.oc.claims.map fun d => if d.id = c.id then
      { d with state := .asking, deadline := some s.cfg.tRel, step := none, owed := false } else d) = s.oc.claims :=
    (List.map_congr_left fun d hd => if_neg (fresh d hd)).trans (List.map_id _)
  simp only [State.cfg] at others
  simp [askHolder, handOver, State.onPlu, changeClaim, State.onOc, State.withClaim, State.cfg, others]

/-- Settles O24: the record, and the message to the holder that makes it ASKING. -/
theorem claimRecorded : Obligations.ClaimRecorded := by
  intro p h f n id s hq hl hf h1 hn hb hp hE hc hone hs hx hheld hfree htaken
  have free := claimTest_free hb hp hE hc hx
  have held : ((s.oc.run f.toNat n.toNat).any fun e => e.owner == some p.peer) = true := by simpa [Oc.run] using hheld
  have fresh := nextClaimId_fresh hone
  have next := nextClaimId_eq hfree htaken
  rw [exec_claim_of_quiet hq, takeClaim_served hl hf h1 hn (by simp [hb]), serveClaim, free, saturated_eq_false hs,
    Bool.and_false, if_neg Bool.false_ne_true]
  dsimp only
  rw [if_pos held, recordClaim_eq, next]
  rw [next] at fresh
  by_cases absent : s.port p.peer = .fenced ∨ s.port p.peer = .parking
  · rw [if_pos absent]
    refine ⟨_, rfl, rfl, fun _ => ⟨rfl, rfl⟩, fun nf np => absurd absent (not_or.mpr ⟨nf, np⟩)⟩
  · rw [if_neg absent, askHolder_withClaim fresh]
    exact ⟨_, rfl, rfl, fun ha => absurd ha absent, fun _ _ => ⟨rfl, rfl⟩⟩

end Sys2Proof.Machine
end

section
/-! Proofs about DISCLAIM and SET POLICY (R76, R77). -/

namespace Sys2Proof.Machine

/- Declarations are elaborated one after another, which keeps the check within its memory. -/
set_option Elab.async false

variable {p : Port} {h : Header} {s : State} {f n : Nat}

theorem serveDisclaim_refused {r : AnsResult} (ht : s.disclaimTest p f n = some r) (hr : r ≠ .exhausted) :
    serveDisclaim p h f n s = answer p h.ref noFlags r (.disclaim s.oc.emap) s := by
  have calm : (r == .exhausted) = false := by simpa using hr
  rw [serveDisclaim, ht]
  simp only [calm, raiseIf]
  rfl

theorem serveDisclaim_exhausted (ht : s.disclaimTest p f n = some .exhausted) :
    serveDisclaim p h f n s = answer p h.ref noFlags .exhausted (.disclaim s.oc.emap) (raise .epochExhausted s) := by
  rw [serveDisclaim, ht]
  rfl

theorem servePolicy_refused {r : AnsResult} {x : Policy} (ht : s.policyTest p f n = some r) :
    servePolicy p h f n x s = answer p h.ref noFlags r (.setPolicy s.oc.emap) s := by
  rw [servePolicy, ht]

theorem disclaimTest_of_ownerTest {r : AnsResult} (ht : s.ownerTest p f n = some r) :
    s.disclaimTest p f n = some r := by
  rw [State.disclaimTest, ht]

theorem policyTest_of_ownerTest {r : AnsResult} (ht : s.ownerTest p f n = some r) : s.policyTest p f n = some r := by
  rw [State.policyTest, ht]

/-- R76, R77: both requests are refused by a test that they share. -/
theorem ownerTest_refusal {r : AnsResult}
    (hr : (s.ic.bridge = .halted ∧ r = .refused) ∨ (s.ic.bridge = .recovery ∧ r = .notReady) ∨
      (s.ic.bridge = .service ∧ s.port p ≠ .enrolled ∧ r = .notEnrolled) ∨
      (s.ic.bridge = .service ∧ s.port p = .enrolled ∧ s.oc.extents.length < f + n ∧ r = .invalid) ∨
      (s.ic.bridge = .service ∧ s.port p = .enrolled ∧ f + n ≤ s.oc.extents.length ∧
        (∃ e ∈ (s.oc.extents.drop f).take n, e.owner ≠ some p) ∧ r = .notOwner)) :
    s.ownerTest p f n = some r ∧ r ≠ .exhausted ∧ s.ic.bridge ≠ .starting := by
  rcases hr with ⟨hb, rfl⟩ | ⟨hb, rfl⟩ | ⟨hb, hp, rfl⟩ | ⟨hb, hp, hE, rfl⟩ | ⟨hb, hp, hE, hx, rfl⟩
  · simp [State.ownerTest, hb]
  · simp [State.ownerTest, hb]
  · simp [State.ownerTest, hb, hp]
  · simp [State.ownerTest, hb, hp, State.extentCount, hE]
  · have inside : ¬ s.oc.extents.length < f + n := by omega
    simp [State.ownerTest, hb, hp, State.extentCount, inside, needsMoving_iff, Oc.run, hx]

section Owned

variable (hb : s.ic.bridge = .service) (hp : s.port p = .enrolled) (hE : f + n ≤ s.oc.extents.length)
  (own : ∀ e ∈ (s.oc.extents.drop f).take n, e.owner = some p)

include hb hp hE own

theorem ownerTest_passed : s.ownerTest p f n = none := by
  have inside : ¬ s.oc.extents.length < f + n := by omega
  have still : needsMoving p ((s.oc.extents.drop f).take n) = false := Bool.eq_false_iff.mpr fun hm => by
    obtain ⟨e, he, ho⟩ := needsMoving_iff.mp hm
    exact ho (own e he)
  simp [State.ownerTest, hb, hp, State.extentCount, inside, Oc.run, still]

theorem disclaimTest_owned : s.disclaimTest p f n =
    if (s.oc.run f n).any (fun e => e.mark.isSome || e.claim.isSome) then some .conflict
    else if s.saturated then some .exhausted
    else none := by
  rw [State.disclaimTest, ownerTest_passed hb hp hE own]

theorem policyTest_owned : s.policyTest p f n =
    if (s.oc.run f n).any (fun e => e.mark.isSome) then some .conflict else none := by
  rw [State.policyTest, ownerTest_passed hb hp hE own]

end Owned

theorem takeDisclaim_served {f n : Word} (hl : h.length = 10#16) (hf : f ≤ 1023#16) (h1 : 1#16 ≤ n) (hn : n ≤ 1024#16)
    (hb : s.ic.bridge ≠ .starting) : takeDisclaim p h f n s = serveDisclaim p h f.toNat n.toNat s := by
  obtain ⟨range, len⟩ := hasLength_of_eq hl (n := 10)
  exact request_served range len (runFieldsOk_iff.mpr ⟨hf, h1, hn⟩) hb

theorem takeSetPolicy_served {f n : Word} {code : Byte} (hl : h.length = 11#16) (hf : f ≤ 1023#16) (h1 : 1#16 ≤ n)
    (hn : n ≤ 1024#16) (hc : code ≤ 1#8) (hb : s.ic.bridge ≠ .starting) :
    takeSetPolicy p h f n code s = servePolicy p h f.toNat n.toNat ((policyOfCode code).getD .shared) s := by
  obtain ⟨range, len⟩ := hasLength_of_eq hl (n := 11)
  refine request_served range len ?_ hb
  rw [Bool.and_eq_true, runFieldsOk_iff, policyOfCode_isSome]
  exact ⟨⟨hf, h1, hn⟩, hc⟩

theorem startStep_run_eq {kind : StepKind} {port : Option Port} {dest : Option Port} {ref : Option Word} :
    startStep kind dest (s.oc.runIndexes f n) port ref s = { s with oc := { s.oc with
      extents := s.oc.extents.mapIdx fun x e =>
        if f ≤ x ∧ x < f + n then { e with mark := some ⟨kind, dest⟩ } else e
      steps := s.oc.steps ++ [⟨s.oc.nextStep, kind, some dest, s.oc.runIndexes f n, port, ref, .quiesce, none⟩]
      nextStep := s.oc.nextStep + 1 } } :=
  startStep_eq (marked := fun x _ => f ≤ x ∧ x < f + n) fun x e he => by
    have inside : x < s.oc.extents.length := (List.getElem?_eq_some_iff.mp he).1
    simp [mem_runIndexes, inside]

theorem applyPolicy_eq {x : Policy} : applyPolicy f n x s = { s with oc := { s.oc with
    extents := s.oc.extents.mapIdx fun i e => if f ≤ i ∧ i < f + n then { e with policy := x } else e } } := by
  simp [applyPolicy, State.onOc, mapExtents, inRun]

/-- Settles O27: the tests in their order, then the step of a DISCLAIM, and the table and the ticket of a SET POLICY. -/
theorem ownerRequestServed : Obligations.OwnerRequestServed := by
  refine ⟨fun p f n h h' code s es hq hl hl' hf h1 hn hcode hes => ⟨fun r hr => ?shared,
    fun hb hp hE own => ⟨fun hx => ?conflict, fun hx => ?policyConflict, fun hx hs => ?exhausted⟩⟩,
    fun p f n h s hq hf h1 hn hb hp hE hx => ⟨fun hl hc hs => ?disclaim, fun hl code x hcode => ?policy⟩⟩
  case shared =>
    rw [hes] at hr
    obtain ⟨ht, he, hb⟩ := ownerTest_refusal hr
    rw [exec_disclaim_of_quiet hq, exec_setPolicy_of_quiet hq, takeDisclaim_served hl hf h1 hn hb,
      takeSetPolicy_served hl' hf h1 hn hcode hb]
    exact ⟨congrArg _ (serveDisclaim_refused (disclaimTest_of_ownerTest ht) he),
      congrArg _ (servePolicy_refused (policyTest_of_ownerTest ht))⟩
  case conflict =>
    rw [hes] at own hx
    rw [exec_disclaim_of_quiet hq, takeDisclaim_served hl hf h1 hn (by simp [hb])]
    refine congrArg _ (serveDisclaim_refused ?_ (by decide))
    rw [disclaimTest_owned hb hp hE own, if_pos (by simpa [Oc.run, Option.isSome_iff_ne_none] using hx)]
  case policyConflict =>
    rw [hes] at own hx
    rw [exec_setPolicy_of_quiet hq, takeSetPolicy_served hl' hf h1 hn hcode (by simp [hb])]
    refine congrArg _ (servePolicy_refused ?_)
    rw [policyTest_owned hb hp hE own, if_pos (by simpa [Oc.run, Option.isSome_iff_ne_none] using hx)]
  case exhausted =>
    rw [hes] at own hx
    rw [exec_disclaim_of_quiet hq, takeDisclaim_served hl hf h1 hn (by simp [hb])]
    refine congrArg _ (serveDisclaim_exhausted ?_)
    rw [disclaimTest_owned hb hp hE own, if_neg (by simpa [Oc.run] using hx), if_pos (saturated_iff.mpr hs)]
  case disclaim =>
    refine ⟨s.oc.runIndexes f.toNat n.toNat, runIndexes_pairwise _ _ _, fun x => ?_, ?_⟩
    · rw [mem_runIndexes]
      omega
    · have free : s.disclaimTest p f.toNat n.toNat = none := by
        rw [disclaimTest_owned hb hp hE fun e he => (hx e he).1, saturated_eq_false hs,
          if_neg (by simpa [Oc.run] using fun e he => ⟨(hx e he).2, hc e he⟩), if_neg Bool.false_ne_true]
      rw [exec_disclaim_of_quiet hq, takeDisclaim_served hl hf h1 hn (by simp [hb]), serveDisclaim, free]
      exact congrArg _ startStep_run_eq
  case policy =>
    have free : s.policyTest p f.toNat n.toNat = none := by
      rw [policyTest_owned hb hp hE fun e he => (hx e he).1, if_neg (by simpa [Oc.run] using fun e he => (hx e he).2)]
    have known : code ≤ 1#8 ∧ (policyOfCode code).getD .shared = x := by
      rcases hcode with ⟨rfl, rfl⟩ | ⟨rfl, rfl⟩ <;> decide
    rw [exec_setPolicy_of_quiet hq, takeSetPolicy_served hl hf h1 hn known.1 (by simp [hb]), servePolicy, free, known.2,
      applyPolicy_eq]
    refine ⟨_, rfl, rfl, rfl, fun hi => ?_, fun hi => ?_⟩
    · exact congrArg State.ic (takeTicket_idle (fun halted => by simp [hb] at halted) hi)
    · exact congrArg State.ic (takeTicket_busy (fun halted => by simp [hb] at halted) hi)

end Sys2Proof.Machine
end

section
/-! Rules about transfer steps: admission (R59, R60), the records that wait on a step (R150, R163), PERSIST (R64), the commit
(R62, R63) and the end of a step (R65). -/

namespace Sys2Proof.Machine

/- Declarations are elaborated one after another, which keeps the check within its memory. -/
set_option Elab.async false

variable {p : Port} {s : State} {u : TransferStep}

/-! ### What a whole-port step concerns -/

theorem concernedIn_iff {kind : StepKind} {port : Option Port} {e : Extent} : concernedIn kind port e = true ↔
    (kind = .clear ∧ (e.owner ≠ none ∨ ∃ m, e.mark = some m ∧ m.dest ≠ none)) ∨
      (kind ≠ .clear ∧ ∃ p, port = some p ∧ (e.owner = some p ∨ ∃ m, e.mark = some m ∧ m.dest = some p)) := by
  by_cases hk : kind = .clear
  · subst hk
    cases hm : e.mark <;> simp [concernedIn, hm, Option.isSome_iff_ne_none]
  · cases port with
    | none => simp [concernedIn, hk]
    | some p => cases hm : e.mark <;> simp [concernedIn, hk, hm]

theorem admissible_iff {o : Oc} {kind : StepKind} {port : Option Port} : o.admissible kind port = true ↔
    ∀ e ∈ o.extents, concernedIn kind port e = true → e.mark = none := by
  simp only [Oc.admissible, List.all_eq_true, Bool.not_eq_true', Bool.and_eq_false_iff, Option.isSome_eq_false_iff,
    Option.isNone_iff_eq_none]
  refine forall₂_congr fun e _ => ?_
  cases concernedIn kind port e <;> simp

theorem admissible_eq_false {o : Oc} {kind : StepKind} {port : Option Port}
    (h : ∃ e ∈ o.extents, concernedIn kind port e = true ∧ e.mark ≠ none) : o.admissible kind port = false := by
  rw [Bool.eq_false_iff, ne_eq, admissible_iff]
  obtain ⟨e, he, hc, hm⟩ := h
  exact fun all => hm (all e he hc)

theorem mem_indexes {o : Oc} {test : Extent → Bool} {x : Nat} :
    x ∈ o.indexes test ↔ ∃ e, o.extents[x]? = some e ∧ test e = true := by
  rw [Oc.indexes, List.mem_filter, List.mem_range]
  cases hx : o.extents[x]? with
  | none => simp
  | some e => simp [(List.getElem?_eq_some_iff.mp hx).1]

theorem mem_wholeSet {o : Oc} {kind : StepKind} {port : Option Port} {x : Nat} :
    x ∈ o.wholeSet kind port ↔ ∃ e, o.extents[x]? = some e ∧
      ((kind = .clear ∧ e.owner ≠ none) ∨ (kind ≠ .clear ∧ port ≠ none ∧ e.owner = port)) := by
  rw [Oc.wholeSet, mem_indexes]
  refine exists_congr fun e => and_congr_right fun _ => ?_
  cases kind <;> simp [Option.isSome_iff_ne_none, and_comm]

/-! ### The records that wait on a step -/

/-- R150, R163: the Takeover Controller takes the destination of a step. -/
def Tc.takeDest (id : Nat) (dest : Option Port) (t : Tc) : Tc :=
  { t with records :=
      ⟨if t.records.a.step == some id then { t.records.a with dest := some dest } else t.records.a,
       if t.records.b.step == some id then { t.records.b with dest := some dest } else t.records.b⟩ }

theorem recordDest_eq (id : Nat) (dest : Option Port) (s : State) : recordDest id dest s = s.onTc (Tc.takeDest id dest) :=
  rfl

/-- R150, R163: the Takeover Controller takes the entry of a step to PERSIST. -/
def Tc.takePersist (id : Nat) (t : Tc) : Tc :=
  { t with
    records :=
      ⟨if t.records.a.step == some id then { t.records.a with stage := .persist } else t.records.a,
       if t.records.b.step == some id then { t.records.b with stage := .persist } else t.records.b⟩
    parks := ⟨t.parks.a.map (·.toPersist id), t.parks.b.map (·.toPersist id)⟩ }

theorem recordPersist_eq (id : Nat) (s : State) : recordPersist id s = s.onTc (Tc.takePersist id) := rfl

theorem takeDest_get (id : Nat) (dest : Option Port) (t : Tc) (q : Port) : (t.takeDest id dest).records.get q =
    if (t.records.get q).step = some id then { t.records.get q with dest := some dest } else t.records.get q := by
  by_cases h : (t.records.get q).step = some id <;> cases q <;> simp_all [Tc.takeDest, PerPort.get]

theorem takePersist_get (id : Nat) (t : Tc) (q : Port) : (t.takePersist id).records.get q =
    if (t.records.get q).step = some id then { t.records.get q with stage := .persist } else t.records.get q := by
  by_cases h : (t.records.get q).step = some id <;> cases q <;> simp_all [Tc.takePersist, PerPort.get]

theorem takePersist_parks (id : Nat) (t : Tc) (q : Port) : (t.takePersist id).parks.get q =
    (t.parks.get q).map fun r => if r.step = some id then { r with stage := .persist } else r := by
  cases q <;> simp only [Tc.takePersist, PerPort.get, ParkRecord.toPersist, beq_iff_eq]

theorem takeDest_of_none {id : Nat} {dest : Option Port} {t : Tc} (h : ∀ q, (t.records.get q).step ≠ some id) :
    t.takeDest id dest = t := by
  have ha : ¬ (t.records.a.step == some id) = true := fun he => h .a (eq_of_beq he)
  have hb : ¬ (t.records.b.step == some id) = true := fun he => h .b (eq_of_beq he)
  simp only [Tc.takeDest, if_neg ha, if_neg hb]

theorem enterPersist_eq (id : Nat) (s : State) : enterPersist id s = { s with
    oc := { s.oc with steps := s.oc.steps.map fun w => if w.id = id then { w with stage := .persist } else w }
    tc := s.tc.takePersist id
    ic := s.ic.takeTicket (.step id) } := by
  simp only [enterPersist, changeStep, recordPersist_eq, takeTicket, State.onIc, State.onTc, State.onOc, beq_iff_eq]

/-! ### Admission -/

/-- R59, R60: a step admitted over extents takes its set, its destination and its marks. -/
theorem admitStep_of_set (hx : s.oc.wholeSet u.kind u.port ≠ []) : admitStep u s = { s with
    oc := { s.oc with
      extents := s.oc.extents.mapIdx fun x e =>
        if x ∈ s.oc.wholeSet u.kind u.port then { e with mark := some ⟨u.kind, s.chooseDest u.kind u.port⟩ } else e
      steps := s.oc.steps.map fun w =>
        if w.id = u.id then
          { w with dest := some (s.chooseDest u.kind u.port), extents := s.oc.wholeSet u.kind u.port, stage := .quiesce }
        else w }
    tc := s.tc.takeDest u.id (s.chooseDest u.kind u.port) } := by
  have some : ¬ (s.oc.wholeSet u.kind u.port).isEmpty = true := by simpa using hx
  unfold admitStep
  dsimp only
  rw [if_neg some]
  simp only [recordDest_eq, changeStep, mapExtents, State.onTc, State.onOc, List.contains_iff_mem, beq_iff_eq]

/-- R59, R60: an empty step passes straight to PERSIST. -/
theorem admitStep_of_empty (hx : s.oc.wholeSet u.kind u.port = []) : admitStep u s = { s with
    oc := { s.oc with
      steps := s.oc.steps.map fun w =>
        if w.id = u.id then { w with dest := some (s.chooseDest u.kind u.port), extents := [], stage := .persist }
        else w }
    tc := (s.tc.takeDest u.id (s.chooseDest u.kind u.port)).takePersist u.id
    ic := s.ic.takeTicket (.step u.id) } := by
  have twice : (fun w : TransferStep => if w.id = u.id then { w with stage := StepStage.persist } else w) ∘
      (fun w => if w.id = u.id then { w with dest := some (s.chooseDest u.kind u.port), extents := [] } else w) =
      fun w => if w.id = u.id then { w with dest := some (s.chooseDest u.kind u.port), extents := [], stage := .persist }
        else w := by
    funext w
    by_cases h : w.id = u.id <;> simp [h]
  unfold admitStep
  dsimp only
  rw [hx, List.isEmpty_nil, if_pos rfl, enterPersist_eq]
  simp only [recordDest_eq, changeStep, State.onTc, State.onOc, beq_iff_eq, List.map_map, twice]

theorem admitIfFree_of_other (h : u.stage ≠ .waiting) : admitIfFree s u = s := by
  simp [admitIfFree, h]

theorem admitIfFree_of_marked (h : ∃ e ∈ s.oc.extents, concernedIn u.kind u.port e = true ∧ e.mark ≠ none) :
    admitIfFree s u = s := by
  simp [admitIfFree, admissible_eq_false h]

theorem admitIfFree_of_free (hw : u.stage = .waiting)
    (h : ∀ e ∈ s.oc.extents, concernedIn u.kind u.port e = true → e.mark = none) : admitIfFree s u = admitStep u s := by
  simp [admitIfFree, hw, admissible_iff.mpr h]

/-- R59, R150, R163: the destination of a whole-port step. -/
theorem chooseDest_eq {kind : StepKind} {port dest : Option Port}
    (hk : (kind = .clear ∧ port = none) ∨ ((kind = .takeover ∨ kind = .park ∨ kind = .release) ∧ port ≠ none))
    (hn : kind = .clear ∨ kind = .release → dest = none)
    (hp : ∀ p : Port, port = some p → kind = .park → dest = if s.port p.peer = .enrolled then some p.peer else none)
    (ht : ∀ p : Port, port = some p → kind = .takeover →
      dest = if s.port p.peer = .enrolled ∧ s.cfg.destination = .survivor then some p.peer else none) :
    s.chooseDest kind port = dest := by
  rcases hk with ⟨rfl, rfl⟩ | ⟨rfl | rfl | rfl, hp'⟩
  · exact (hn (.inl rfl)).symm
  · obtain ⟨p, rfl⟩ := Option.ne_none_iff_exists'.mp hp'
    rw [ht p rfl rfl]
    simp [State.chooseDest, and_comm]
  · obtain ⟨p, rfl⟩ := Option.ne_none_iff_exists'.mp hp'
    rw [hp p rfl rfl]
    rfl
  · rw [hn (.inr rfl)]
    cases port <;> rfl

/-! ### A step asked for -/

/-- The step that a request makes (R60). -/
def State.stepAsked (s : State) (kind : StepKind) (port : Option Port) (ref : Option Word) : TransferStep :=
  ⟨s.oc.nextStep, kind, none, [], port, ref, .waiting, none⟩

/-- The state in which a requested step is first looked at. -/
def State.withStep (s : State) (u : TransferStep) : State :=
  { s with oc := { s.oc with steps := s.oc.steps ++ [u], nextStep := s.oc.nextStep + 1 } }

theorem requestStep_eq (kind : StepKind) (port : Option Port) (ref : Option Word) (s : State) :
    requestStep kind port ref s =
      admitIfFree (s.withStep (s.stepAsked kind port ref)) (s.stepAsked kind port ref) := rfl

variable {kind : StepKind} {port : Option Port} {ref : Option Word}

theorem requestStep_of_marked (h : ∃ e ∈ s.oc.extents, concernedIn kind port e = true ∧ e.mark ≠ none) :
    requestStep kind port ref s = s.withStep (s.stepAsked kind port ref) :=
  admitIfFree_of_marked (u := s.stepAsked kind port ref) h

/-- The other steps are left alone when the newest one is changed. -/
theorem map_newest {l : List TransferStep} {v : TransferStep} {g : TransferStep → TransferStep}
    (fresh : ∀ w ∈ l, w.id ≠ v.id) : ((l ++ [v]).map fun w => if w.id = v.id then g w else w) = l ++ [g v] := by
  have others : (l.map fun w => if w.id = v.id then g w else w) = l :=
    (List.map_congr_left fun w hw => if_neg (fresh w hw)).trans (List.map_id _)
  simp [others]

theorem requestStep_of_set (fresh : ∀ w ∈ s.oc.steps, w.id ≠ s.oc.nextStep)
    (h : ∀ e ∈ s.oc.extents, concernedIn kind port e = true → e.mark = none) (hx : s.oc.wholeSet kind port ≠ []) :
    requestStep kind port ref s = { s with
      oc := { s.oc with
        extents := s.oc.extents.mapIdx fun x e =>
          if x ∈ s.oc.wholeSet kind port then { e with mark := some ⟨kind, s.chooseDest kind port⟩ } else e
        steps := s.oc.steps ++
          [⟨s.oc.nextStep, kind, some (s.chooseDest kind port), s.oc.wholeSet kind port, port, ref, .quiesce, none⟩]
        nextStep := s.oc.nextStep + 1 }
      tc := s.tc.takeDest s.oc.nextStep (s.chooseDest kind port) } := by
  rw [requestStep_eq, admitIfFree_of_free rfl h, 
    admitStep_of_set (s := s.withStep (s.stepAsked kind port ref)) (u := s.stepAsked kind port ref) hx]
  simp only [State.withStep]
  rw [map_newest (v := s.stepAsked kind port ref) fresh]
  rfl

theorem requestStep_of_empty (fresh : ∀ w ∈ s.oc.steps, w.id ≠ s.oc.nextStep)
    (h : ∀ e ∈ s.oc.extents, concernedIn kind port e = true → e.mark = none) (hx : s.oc.wholeSet kind port = []) :
    requestStep kind port ref s = { s with
      oc := { s.oc with
        steps := s.oc.steps ++
          [⟨s.oc.nextStep, kind, some (s.chooseDest kind port), [], port, ref, .persist, none⟩]
        nextStep := s.oc.nextStep + 1 }
      tc := (s.tc.takeDest s.oc.nextStep (s.chooseDest kind port)).takePersist s.oc.nextStep
      ic := s.ic.takeTicket (.step s.oc.nextStep) } := by
  rw [requestStep_eq, admitIfFree_of_free rfl h, 
    admitStep_of_empty (s := s.withStep (s.stepAsked kind port ref)) (u := s.stepAsked kind port ref) hx]
  simp only [State.withStep]
  rw [map_newest (v := s.stepAsked kind port ref) fresh]
  rfl

/-- Settles O29: a step that is asked for waits, takes its extents, or is empty. -/
theorem wholeStepAdmitted : Obligations.WholeStepAdmitted := by
  intro kind port ref s t dest hk fresh ht hn hp hto
  have chosen := chooseDest_eq hk hn hp hto
  by_cases marked : ∃ e ∈ s.oc.extents, concernedIn kind port e = true ∧ e.mark ≠ none
  · rw [requestStep_of_marked marked] at ht
    subst ht
    refine ⟨rfl, rfl, rfl, fun _ => ⟨rfl, rfl, rfl, rfl⟩, fun free => ?_, fun x => mem_wholeSet⟩
    obtain ⟨e, he, hc, hm⟩ := marked
    exact absurd (free e he hc) hm
  · have free : ∀ e ∈ s.oc.extents, concernedIn kind port e = true → e.mark = none := fun e he hc =>
      Classical.byContradiction fun hm => marked ⟨e, he, hc, hm⟩
    by_cases hx : s.oc.wholeSet kind port = []
    · rw [requestStep_of_empty fresh free hx, chosen] at ht
      subst ht
      exact ⟨rfl, rfl, rfl, fun hm => absurd hm marked, fun _ => ⟨fun hne => absurd hx hne, fun _ => ⟨rfl, rfl⟩⟩,
        fun x => mem_wholeSet⟩
    · rw [requestStep_of_set fresh free hx, chosen] at ht
      subst ht
      exact ⟨rfl, rfl, rfl, fun hm => absurd hm marked, fun _ => ⟨fun _ => ⟨rfl, rfl, rfl⟩, fun he => absurd he hx⟩,
        fun x => mem_wholeSet⟩

end Sys2Proof.Machine
end

section
/-! Proofs about the reports that end a drain, and the steps in WAITING (R60, R119, R149, R150, R163). -/

namespace Sys2Proof.Machine

/- Declarations are elaborated one after another, which keeps the check within its memory. -/
set_option Elab.async false

variable {p : Port} {s : State} {u : TransferStep}

theorem mapIdx_eq_map {α β : Type} (l : List α) (f : α → β) : (l.mapIdx fun _ e => f e) = l.map f := by
  refine List.ext_getElem (by simp) fun i h1 h2 => ?_
  simp

theorem portIsClear_iff {d : Dct} : d.portIsClear p = true ↔
    d.clearReq.get p = true ∧ ∀ e ∈ d.entries, e.origin ≠ .server p := by
  rw [Dct.portIsClear, Bool.and_eq_true, beq_iff_eq, portEntries_eq_zero_iff]

theorem exec_portClear_of_clear (h : s.dct.portIsClear p = true) : exec (.portClear p) s = .next (reportClear p s) := by
  have arm : exec (.portClear p) s = .next (if s.dct.portIsClear p then reportClear p s else s) := rfl
  rw [arm, if_pos h]

theorem exec_portClear_of_not (h : ¬ s.dct.portIsClear p = true) : exec (.portClear p) s = .next s := by
  have arm : exec (.portClear p) s = .next (if s.dct.portIsClear p then reportClear p s else s) := rfl
  rw [arm, if_neg h]

theorem exec_queueEmptyReport : exec (.queueEmptyReport p) s =
    .next (if s.queueReportDue p then reportEmpty p s else s) := rfl

theorem exec_waitingStepAdmitted : exec .waitingStepAdmitted s =
    .next (if s.oc.admitDue then admitWaiting s else s) := rfl

theorem reportClear_takeover (h : (s.tc.records.get p).stage = .drain) :
    reportClear p s = takeoverTransfer p (s.onDct fun d => { d with clearReq := d.clearReq.set p false }) := if_pos h

theorem reportClear_park {r : ParkRecord} (h : (s.tc.records.get p).stage ≠ .drain) (hr : s.tc.parks.get p = some r)
    (hs : r.stage = .drive) :
    reportClear p s = parkTransfer p r (s.onDct fun d => { d with clearReq := d.clearReq.set p false }) := by
  refine (if_neg h).trans ?_
  simp only [State.onDct_tc, hr, if_pos hs]

/-- R60, R59: a step of R60 that is admitted, over extents or as an empty one. -/
theorem admitStep_spec {dest : Option Port} {xs : List Nat} (hxs : xs = s.oc.wholeSet u.kind u.port)
    (hd : s.chooseDest u.kind u.port = dest) :
    ∃ t : State, admitStep u s = t ∧ t = { s with oc := t.oc, tc := t.tc, ic := t.ic } ∧
      t.oc = { s.oc with
        extents := s.oc.extents.mapIdx fun x e => if x ∈ xs then { e with mark := some ⟨u.kind, dest⟩ } else e,
        steps := s.oc.steps.map fun w =>
          if w.id = u.id then
            { w with dest := some dest, extents := xs, stage := if xs = [] then .persist else .quiesce }
          else w } ∧
      (∀ q : Port, t.tc.records.get q =
        if (s.tc.records.get q).step = some u.id then
          { s.tc.records.get q with
            dest := some dest, stage := if xs = [] then .persist else (s.tc.records.get q).stage }
        else s.tc.records.get q) ∧
      (∀ q : Port, t.tc.parks.get q = (s.tc.parks.get q).map fun r =>
        if xs = [] ∧ r.step = some u.id then { r with stage := .persist } else r) ∧
      t.tc = { s.tc with records := t.tc.records, parks := t.tc.parks } ∧
      (xs ≠ [] → t.ic = s.ic) ∧
      (xs = [] → t.ic = (takeTicket (.step u.id) s).ic) := by
  by_cases hx : xs = []
  · rw [hxs] at hx
    rw [admitStep_of_empty hx, hd, hxs, hx]
    refine ⟨_, rfl, rfl, ?_, fun q => ?_, fun q => ?_, rfl, fun hne => absurd rfl hne, fun _ => rfl⟩
    · simp [mapIdx_eq_map s.oc.extents fun e => e]
    · dsimp only
      rw [takePersist_get, takeDest_get]
      by_cases hq : (s.tc.records.get q).step = some u.id <;> simp [hq]
    · dsimp only
      rw [takePersist_parks]
      simp only [true_and]
      rfl
  · have hne : s.oc.wholeSet u.kind u.port ≠ [] := hxs ▸ hx
    rw [admitStep_of_set hne, hd, ← hxs]
    refine ⟨_, rfl, rfl, ?_, fun q => ?_, fun q => ?_, rfl, fun _ => rfl, fun he => absurd he hx⟩
    · simp only [if_neg hx]
    · dsimp only
      rw [takeDest_get]
      simp only [if_neg hx]
    · simp [hx]
      rfl

/-- R59: the marks of a RELEASE step are over the extents of its port. -/
theorem release_marks {es : List Extent} {o : Oc} (ho : o.extents = es) :
    (es.mapIdx fun x e => if x ∈ (o.indexes fun e => e.owner == some p) then { e with mark := some ⟨.release, none⟩ } else e) =
      es.map fun e => if e.owner = some p then { e with mark := some ⟨.release, none⟩ } else e := by
  rw [← mapIdx_eq_map]
  refine mapIdx_congr fun x e he => ?_
  have mem : x ∈ (o.indexes fun e => e.owner == some p) ↔ e.owner = some p := by
    rw [mem_indexes, ho, he]
    simp
  simp only [mem]

theorem wholeSet_ne_nil {o : Oc} (h : o.owns p = true) : o.wholeSet .release (some p) ≠ [] := by
  obtain ⟨e, he, hp⟩ := List.any_eq_true.mp h
  obtain ⟨i, hi, rfl⟩ := List.getElem_of_mem he
  refine List.ne_nil_of_mem (mem_wholeSet.mpr ⟨_, List.getElem?_eq_getElem hi, .inr ⟨by decide, by simp, ?_⟩⟩)
  exact eq_of_beq hp

theorem wholeSet_release (o : Oc) : o.wholeSet .release (some p) = o.indexes fun e => e.owner == some p := by
  simp [Oc.wholeSet]

/-- R126: no extent of the port is marked, and none comes to it. -/
theorem release_free {es : List Extent}
    (h : ∀ e ∈ es, (e.owner = some p → e.mark = none) ∧ ∀ m, e.mark = some m → m.dest ≠ some p) :
    ∀ e ∈ es, concernedIn .release (some p) e = true → e.mark = none := by
  intro e he hc
  rcases concernedIn_iff.mp hc with ⟨hk, -⟩ | ⟨-, q, hq, ho | ⟨m, hm, hd⟩⟩
  · exact absurd hk (by decide)
  · exact (h e he).1 (Option.some.inj hq ▸ ho)
  · exact absurd (Option.some.inj hq ▸ hd) ((h e he).2 m hm)

/-- Settles O30: the two reports, and the steps in WAITING, each by what its admission does. -/
theorem drainReported : Obligations.DrainReported := by
  refine ⟨fun p s => ⟨fun hc hn => ⟨fun hs => ?takeover, fun r hs hr hd => ?park⟩, fun hn => ?notClear,
    fun r hr hs hq => ?empty, fun hq => ?queued, fun u ha hu hw hk hp hx hrec hown => ?release, fun ha => ?notDue⟩,
    fun s ha => ?due, fun u s dest xs hxs hk hn hp ht => ⟨admitIfFree_of_other, admitIfFree_of_marked, fun hw hfree => ?admitted⟩,
    fun kind port e => concernedIn_iff⟩
  case takeover =>
    rw [exec_portClear_of_clear (portIsClear_iff.mpr ⟨hc, hn⟩), reportClear_takeover hs]
    rfl
  case park =>
    rw [exec_portClear_of_clear (portIsClear_iff.mpr ⟨hc, hn⟩), reportClear_park hs hr hd]
    rfl
  case notClear =>
    refine exec_portClear_of_not fun h => ?_
    obtain ⟨hc, hno⟩ := portIsClear_iff.mp h
    rcases hn with hn | ⟨e, he, ho⟩
    · exact absurd hc (by simp [hn])
    · exact hno e he ho
  case empty =>
    have due : s.queueReportDue p = true := by simp [State.queueReportDue, hr, hs, hq]
    rw [exec_queueEmptyReport, if_pos due, reportEmpty]
    simp only [State.onDct, State.onTc, hr]
    rfl
  case queued =>
    have notDue : ¬ s.queueReportDue p = true := by
      unfold State.queueReportDue
      split <;> simp [hq]
    rw [exec_queueEmptyReport, if_neg notDue]
  case notDue => rw [exec_waitingStepAdmitted, ha]; rfl
  case due => rw [exec_waitingStepAdmitted, if_pos ha]; rfl
  case admitted =>
    rw [admitIfFree_of_free hw hfree]
    exact admitStep_spec hxs (chooseDest_eq hk hn hp ht)
  case release =>
    have free : ∀ e ∈ s.oc.extents, concernedIn u.kind u.port e = true → e.mark = none := by
      rw [hk, hp]
      exact release_free hx
    have set : s.oc.wholeSet u.kind u.port ≠ [] := by
      rw [hk, hp]
      exact wholeSet_ne_nil hown
    have admitted := (admitIfFree_of_free (s := s.onOc fun o => { o with admitDue := false }) hw free).trans
      (admitStep_of_set set)
    have dest : (s.onOc fun o => { o with admitDue := false }).chooseDest u.kind u.port = none := by rw [hk, hp]; rfl
    rw [dest, hk, hp] at admitted
    rw [exec_waitingStepAdmitted, if_pos ha, admitWaiting, hu, List.foldl_cons, List.foldl_nil, admitted]
    simp only [State.onOc, release_marks, wholeSet_release, hu, takeDest_of_none hrec, List.map_cons,
      List.map_nil, if_true]
    rfl

end Sys2Proof.Machine
end

section
/-! Proofs about ENROL and PARK (R124 to R128, R141, R162). -/

namespace Sys2Proof.Machine

/- Declarations are elaborated one after another, which keeps the check within its memory. -/
set_option Elab.async false

variable {p : Port} {h : Header} {ep : Epoch} {s : State}

/-! ### The tests of ENROL -/

theorem takeEnrol_served (hl : h.length = 10#16) (hb : s.ic.bridge ≠ .starting) :
    takeEnrol p h ep s = serveEnrol p h ep s := by
  obtain ⟨range, len⟩ := hasLength_of_eq hl (n := 10)
  exact request_served range len rfl hb

theorem serveEnrol_refused {r : AnsResult} (ht : s.enrolTest p = some r) (hr : r ≠ .exhausted) :
    serveEnrol p h ep s = answer p h.ref noFlags r (s.enrolBody p) s := by
  have calm : (r == .exhausted) = false := by simpa using hr
  rw [serveEnrol, ht]
  simp only [calm, raiseIf]
  rfl

theorem serveEnrol_exhausted (ht : s.enrolTest p = some .exhausted) :
    serveEnrol p h ep s = answer p h.ref noFlags .exhausted (s.enrolBody p) (raise .epochExhausted s) := by
  rw [serveEnrol, ht]
  rfl

theorem enrolBody_of_set {x : IntentSet} (hx : (s.tc.intents.filter fun y => y.port = p).getLast? = some x) :
    s.enrolBody p = .enrol s.oc.emap x.setId x.entries.length := by
  have newest : s.tc.newestSet p = some x := by simpa only [Tc.newestSet, Bool.beq_eq_decide_eq] using hx
  rw [State.enrolBody, newest]

theorem enrolBody_of_none (hx : ∀ x ∈ s.tc.intents, x.port ≠ p) : s.enrolBody p = .enrol s.oc.emap 0 0 := by
  have none : (s.tc.intents.filter fun x => x.port == p) = [] := by simpa using hx
  rw [State.enrolBody, Tc.newestSet, none]
  rfl

/-- The states from which a port may enrol (R124). -/
def PortState.mayEnrol (st : PortState) : Prop := st = .offline ∨ st = .linked ∨ st = .parked ∨ st = .fenced

/-- R124, tests 1 to 5, passed. -/
structure EnrolDue (p : Port) (s : State) : Prop where
  bridge : s.ic.bridge ≠ .halted
  port : (s.port p).mayEnrol
  enrol : (s.sup.get p).enrol = none
  stage : s.port p = .fenced → (s.tc.records.get p).stage = .persist ∨ (s.tc.records.get p).stage = .closed

/-- R124, test 6: the server is there. -/
structure ServerRuns (p : Port) (s : State) : Prop where
  align : (s.plu.get p).align ≠ .down
  health : (s.plu.get p).settled.health = .running
  identity : (s.plu.get p).settled.identity ≠ 0

theorem linkUp_eq_false (h : (s.plu.get p).align = .down) : s.linkUp p = false :=
  Bool.eq_false_iff.mpr fun up => linkUp_iff.mp up h

theorem enrolTest_due (hd : EnrolDue p s) : s.enrolTest p =
    if !s.linkUp p || (s.plu.get p).settled.health != .running || (s.plu.get p).settled.identity == 0 then some .notReady
    else if s.releaseNeeded p && s.saturated then some .exhausted
    else none := by
  obtain ⟨hb, hp, he, hs⟩ := hd
  have stage : (s.port p == .fenced && (s.tc.records.get p).stage.beforePersist) = false := by
    by_cases hf : s.port p = .fenced
    · rcases hs hf with h | h <;> simp [h, TakeoverStage.beforePersist]
    · simp [hf]
  have notIn : s.port p ≠ .enrolled ∧ s.port p ≠ .suspect ∧ s.port p ≠ .held ∧ s.port p ≠ .parking := by
    rcases hp with h | h | h | h <;> simp [h]
  obtain ⟨h1, h2, h3, h4⟩ := notIn
  simp only [State.enrolTest, stage, he]
  simp [hb, h1, h2, h3, h4]

theorem enrolTest_absent (hd : EnrolDue p s) (hn : (s.plu.get p).align = .down ∨
    (s.plu.get p).settled.health ≠ .running ∨ (s.plu.get p).settled.identity = 0) : s.enrolTest p = some .notReady := by
  rw [enrolTest_due hd]
  refine if_pos ?_
  rcases hn with h | h | h
  · simp [linkUp_eq_false h]
  · simp [h]
  · simp [h]

theorem enrolTest_runs (hd : EnrolDue p s) (hr : ServerRuns p s) : s.enrolTest p =
    if s.releaseNeeded p && s.saturated then some .exhausted else none := by
  obtain ⟨ha, hh, hi⟩ := hr
  rw [enrolTest_due hd]
  have known : ((s.plu.get p).settled.identity == 0) = false := beq_eq_false_iff_ne.mpr hi
  rw [linkUp_iff.mpr ha, hh, known]
  rfl

theorem releaseNeeded_of_owner (ho : s.oc.owns p = true) (hi : s.oc.ownerId.get p ≠ (s.plu.get p).settled.identity) :
    s.releaseNeeded p = true := by
  simp [State.releaseNeeded, ho, hi]

theorem releaseNeeded_eq_false (h : s.oc.owns p = false ∨ s.oc.ownerId.get p = (s.plu.get p).settled.identity) :
    s.releaseNeeded p = false := by
  rcases h with h | h <;> simp [State.releaseNeeded, h]

/-- Settles O18, by the tests of ENROL in their order. -/
theorem enrolRefused : Obligations.EnrolRefused := by
  intro p h ep s hq hl
  rw [exec_enrol_of_quiet hq]
  refine ⟨fun x hx => enrolBody_of_set hx, enrolBody_of_none, fun hb => ?starting, fun hb => ?_⟩
  case starting =>
    obtain ⟨range, len⟩ := hasLength_of_eq hl (n := 10)
    exact congrArg _ (request_starting range len rfl hb)
  rw [takeEnrol_served hl hb]
  refine ⟨fun hp => ?_, fun hp hh => ?_, fun hh hp => ?_, fun hh hp => ⟨fun he => ?_, fun hf hs => ?_,
    fun he hs => ⟨fun hn => ?_, fun ha hr hi ho hid hsat => ?_⟩⟩⟩
  · exact congrArg _ (serveEnrol_refused (by simp [State.enrolTest, hp]) (by decide))
  · exact congrArg _ (serveEnrol_refused (by simp [State.enrolTest, hp, hh]) (by decide))
  · refine congrArg _ (serveEnrol_refused ?_ (by decide))
    rcases hp with hp | hp | hp <;> simp [State.enrolTest, hp, hh]
  · refine congrArg _ (serveEnrol_refused ?_ (by decide))
    have some : (s.sup.get p).enrol.isSome = true := Option.isSome_iff_ne_none.mpr he
    rcases hp with hp | hp | hp | hp <;> simp [State.enrolTest, hp, hh, some]
  · refine congrArg _ (serveEnrol_refused ?_ (by decide))
    have stage : (s.tc.records.get p).stage.beforePersist = true := by rcases hs with h | h | h <;> rw [h] <;> rfl
    simp [State.enrolTest, hf, hh, stage]
  · exact congrArg _ (serveEnrol_refused (enrolTest_absent ⟨hh, hp, he, hs⟩ hn) (by decide))
  · refine congrArg _ (serveEnrol_exhausted ?_)
    rw [enrolTest_runs ⟨hh, hp, he, hs⟩ ⟨ha, hr, hi⟩, releaseNeeded_of_owner ho hid, saturated_iff.mpr hsat]
    rfl

/-! ### An ENROL accepted -/

theorem serveEnrol_accepted (ht : s.enrolTest p = none) : serveEnrol p h ep s =
    if s.ic.bridge == .recovery then enrolInRecovery p h ep s
    else if s.releaseNeeded p then requestStep .release (some p) (some h.ref) (recordEnrol p h ep s)
    else enrolNow p h s := by
  rw [serveEnrol, ht]

theorem fencePort_ownerId (p : Port) (cause : FenceCause) (s : State) :
    (fencePort p cause s).oc.ownerId = s.oc.ownerId := by
  by_cases hn : s.port p = .fenced ∨ s.ic.bridge = .starting
  · have same : fencePort p cause s = s := by rcases hn with h | h <;> simp [fencePort, h]
    rw [same]
  · obtain ⟨hf, hb⟩ := not_or.mp hn
    rw [fencePort_eq hf hb]
    simp only [Oc.holderOut, Oc.claimantOut]
    split <;> rfl

/-- What the judgement of a port's peer leaves alone. -/
def PeerKept (p : Port) (s t : State) : Prop :=
  t.sup.get p = s.sup.get p ∧ t.plu.get p = s.plu.get p ∧ t.oc.ownerId = s.oc.ownerId

theorem setPort_peerKept {st : PortState} : PeerKept p s (setPort p.peer st s) :=
  ⟨PerPort.get_peer_set _ _ _, rfl, rfl⟩

theorem fencePort_peerKept {cause : FenceCause} : PeerKept p s (fencePort p.peer cause s) := by
  have peer := fencePort_peer p.peer cause s
  rw [Port.peer_peer] at peer
  exact ⟨peer.1, peer.2, fencePort_ownerId _ _ _⟩

/-- R133, R134: the judgement of a port's peer leaves the port, its link and the owner identities alone. -/
theorem judge_peerKept (p : Port) (s : State) : PeerKept p s (judge p.peer s) := by
  unfold judge
  split
  · split
    · exact setPort_peerKept
    all_goals
      split
      · exact fencePort_peerKept
      · exact setPort_peerKept
  · exact ⟨rfl, rfl, rfl⟩

/-- R125, R127: the state in which the peer is judged after an ENROL that needs no release. -/
def State.enrolled (s : State) (p : Port) (ref : Word) : State :=
  { s with
    plu := s.plu.set p ((s.plu.get p).handOver
      (.answer ref ⟨false, false, s.port p = .fenced, false⟩ .done (s.enrolBody p)))
    sup := s.sup.set p { s.sup.get p with
      state := .enrolled, identity := (s.plu.get p).settled.identity, cause := .none, stall := 0 }
    oc := { s.oc with ownerId := s.oc.ownerId.set p (s.plu.get p).settled.identity } }

theorem enrolNow_eq : enrolNow p h s = judge p.peer (s.enrolled p h.ref) := by
  simp only [enrolNow, Bool.beq_eq_decide_eq]
  rfl

theorem concernedIn_release {e : Extent} : concernedIn .release (some p) e = true ↔
    e.owner = some p ∨ ∃ m, e.mark = some m ∧ m.dest = some p := by
  rw [concernedIn_iff]
  simp

/-- Settles O19: an ENROL that needs no release, and one that asks for it. -/
theorem enrolAccepted : Obligations.EnrolAccepted := by
  refine ⟨fun p h ep s hq hl hb hp he hs ha hr hi ho => ?now, fun p h ep s hq hl hb hp hs he ha hr hi ho hid hsat fresh hrec => ?release⟩
  case now =>
    have due : EnrolDue p s := ⟨by simp [hb], hp, he, hs⟩
    have free : s.enrolTest p = none := by
      rw [enrolTest_runs due ⟨ha, hr, hi⟩, releaseNeeded_eq_false ho]
      rfl
    obtain ⟨sup, plu, owner⟩ := judge_peerKept p (s.enrolled p h.ref)
    have sup' := sup.trans (PerPort.get_set_self _ _ _)
    have plu' := plu.trans (PerPort.get_set_self _ _ _)
    rw [exec_enrol_of_quiet hq, takeEnrol_served hl (by simp [hb]), serveEnrol_accepted free, if_neg (by simp [hb]),
      releaseNeeded_eq_false ho, if_neg Bool.false_ne_true, enrolNow_eq]
    refine ⟨_, rfl, sup', ?_, plu', fun hj => ?_, ?_⟩
    · rw [owner]
      exact PerPort.get_set_self _ _ _
    · rw [sup', plu']
      refine judge_of_not_judged ?_
      rwa [State.enrolled, PerPort.get_set_peer]
    · rw [sup', plu']
      exact judge_peerJudged p (s.enrolled p h.ref)
  case release =>
    have due : EnrolDue p s := ⟨by simp [hb], hp, he, hs⟩
    have free : s.enrolTest p = none := by
      rw [enrolTest_runs due ⟨ha, hr, hi⟩, saturated_eq_false hsat, Bool.and_false]
      rfl
    have recorded : recordEnrol p h ep s = { s with sup := s.sup.set p { s.sup.get p with
        enrol := some ⟨h.ref, ep, s.port p, (s.plu.get p).settled.identity, false⟩ } } := by
      simp only [recordEnrol, hb]
      rfl
    rw [exec_enrol_of_quiet hq, takeEnrol_served hl (by simp [hb]), serveEnrol_accepted free, if_neg (by simp [hb]),
      releaseNeeded_of_owner ho hid, if_pos rfl, recorded]
    by_cases marked : ∃ e ∈ s.oc.extents, concernedIn .release (some p) e = true ∧ e.mark ≠ none
    · have asked := requestStep_of_marked (s := recordEnrol p h ep s) (ref := some h.ref) marked
      rw [recorded] at asked
      rw [asked]
      refine ⟨_, rfl, rfl, rfl, fun hx => ?_, fun _ => ⟨rfl, rfl⟩⟩
      obtain ⟨e, he, hc, hm⟩ := marked
      exact absurd (release_free hx e he hc) hm
    · have unmarked : ∀ e ∈ s.oc.extents, concernedIn .release (some p) e = true → e.mark = none := fun e he hc =>
        Classical.byContradiction fun hm => marked ⟨e, he, hc, hm⟩
      have asked := requestStep_of_set (s := recordEnrol p h ep s) (ref := some h.ref) fresh unmarked (wholeSet_ne_nil ho)
      rw [recorded] at asked
      rw [asked]
      refine ⟨_, rfl, rfl, ?_, fun _ => ⟨?_, ?_⟩, fun ⟨e, he, m, hm, hc⟩ => ?_⟩
      · simp only [takeDest_of_none hrec]
      · simp only [wholeSet_release]
        exact release_marks rfl
      · simp only [wholeSet_release]
        rfl
      · refine absurd (unmarked e he (concernedIn_release.mpr ?_)) (by simp [hm])
        exact hc.imp id fun hd => ⟨m, hm, hd⟩

end Sys2Proof.Machine
end

section
/-! Proofs about ENROL in RECOVERY and about PARK (R128, R141, R162). -/

namespace Sys2Proof.Machine

/- Declarations are elaborated one after another, which keeps the check within its memory. -/
set_option Elab.async false

variable {p : Port} {h : Header} {ep : Epoch} {s : State}

theorem epochExhausted_mask : Event.epochExhausted.mask = 1024#16 := rfl

theorem satSucc_eq_max_iff : (satSucc ep == Config.maxEpoch) = true ↔ 4294967294#32 ≤ ep := by
  rw [beq_iff_eq]
  have all : BitVec.allOnes 32 = 4294967295#32 := rfl
  unfold satSucc Config.maxEpoch
  rw [all]
  split
  · next h => simp [h]
  · next h => bv_omega

/-- R51, R52: E_map rises above a reported epoch at or above it. -/
theorem recoverEpoch_eq (ep : Epoch) (s : State) : recoverEpoch ep s = { s with
    oc := { s.oc with emap := if s.oc.emap ≤ ep then satSucc ep else s.oc.emap }
    mi := if s.oc.emap ≤ ep ∧ 4294967294#32 ≤ ep then { s.mi with events := s.mi.events ||| 1024#16 } else s.mi } := by
  unfold recoverEpoch
  by_cases rises : s.oc.emap ≤ ep
  · rw [if_pos rises, setEpoch, raiseIf_eq, epochExhausted_mask]
    by_cases max : 4294967294#32 ≤ ep
    · simp [rises, max, satSucc_eq_max_iff.mpr max, State.onMi, State.onOc]
    · have low : (satSucc ep == Config.maxEpoch) = false := Bool.eq_false_iff.mpr fun h => max (satSucc_eq_max_iff.mp h)
      simp [rises, max, low, State.onMi, State.onOc]
  · simp [rises]

theorem Ic.takeTicket_idle {c : Ic} {t : Taker} (hb : c.bridge ≠ .halted) (hc : c.cycle = .idle) :
    c.takeTicket t = { c with tickets := c.tickets ++ [⟨c.generation + 1, t⟩], beginDue := true } := by
  simp [Ic.takeTicket, hb, hc]

theorem Ic.takeTicket_busy {c : Ic} {t : Taker} (hb : c.bridge ≠ .halted) (hc : c.cycle ≠ .idle) :
    c.takeTicket t = { c with tickets := c.tickets ++ [⟨c.generation + 1, t⟩], dirty := true } := by
  simp [Ic.takeTicket, hb, hc]

theorem Ic.takeTicket_halted {c : Ic} {t : Taker} (hb : c.bridge = .halted) :
    c.takeTicket t = { c with served := c.served ++ [⟨t, false⟩] } := by
  simp [Ic.takeTicket, hb]

/-- R128, R179: the state in which the peer is judged after an ENROL in RECOVERY. -/
def State.enrolledInRecovery (s : State) (p : Port) (ref : Word) (ep : Epoch) : State :=
  takeTicket (.enrol p (!s.ic.recoveryEnrolled)) { s with
    sup := s.sup.set p { s.sup.get p with
      state := .enrolled, identity := (s.plu.get p).settled.identity, cause := .none, stall := 0,
      enrol := some ⟨ref, ep, s.port p, (s.plu.get p).settled.identity, true⟩ }
    oc := { s.oc with
      ownerId := s.oc.ownerId.set p (s.plu.get p).settled.identity
      emap := if s.oc.emap ≤ ep then satSucc ep else s.oc.emap }
    mi := if s.oc.emap ≤ ep ∧ 4294967294#32 ≤ ep then { s.mi with events := s.mi.events ||| 1024#16 } else s.mi
    ic := { s.ic with recoveryEnrolled := true } }

theorem enrolInRecovery_eq (hb : s.ic.bridge = .recovery) :
    enrolInRecovery p h ep s = judge p.peer (s.enrolledInRecovery p h.ref ep) := by
  simp only [enrolInRecovery, recoverEpoch_eq, State.enrolledInRecovery, enterEnrolled, recordEnrol, hb, State.onSup,
    State.onOc, State.onIc, PerPort.set_set, PerPort.get_set_self]
  rfl

/-- Settles O20: the state before the peer is judged, and the ticket by the state of the image cycle. -/
theorem enrolInRecoveryServed : Obligations.EnrolInRecovery := by
  intro p h ep s hq hl hb hp hs he ha hr hi ho
  have due : EnrolDue p s := ⟨by simp [hb], hp, he, hs⟩
  have free : s.enrolTest p = none := by
    rw [enrolTest_runs due ⟨ha, hr, hi⟩, releaseNeeded_eq_false (.inl ho)]
    rfl
  have notHalted : s.ic.bridge ≠ .halted := by simp [hb]
  rw [exec_enrol_of_quiet hq, takeEnrol_served hl (by simp [hb]), serveEnrol_accepted free, if_pos (by simp [hb]),
    enrolInRecovery_eq hb]
  refine ⟨s.enrolledInRecovery p h.ref ep, _, rfl, judge_peerJudged _ _, fun hj => judge_of_not_judged ?_, rfl, rfl, rfl,
    fun hc => ?_, fun hc => ?_, rfl⟩
  · rw [← hj]
    exact congrArg Supervisor.judged (PerPort.get_set_peer _ _ _)
  · exact Ic.takeTicket_idle (c := { s.ic with recoveryEnrolled := true }) notHalted hc
  · exact Ic.takeTicket_busy (c := { s.ic with recoveryEnrolled := true }) notHalted hc

/-! ### PARK -/

theorem takePark_served (hl : h.length = 6#16) (hb : s.ic.bridge ≠ .starting) : takePark p h s =
    if s.port p == .enrolled then acceptPark p h s else answer p h.ref noFlags .notEnrolled (.park s.oc.emap) s := by
  obtain ⟨range, len⟩ := hasLength_of_eq hl (n := 6)
  exact request_served range len rfl hb

theorem claimantParks_of_none (hc : ∀ c ∈ s.oc.claims, c.claimant ≠ p) : claimantParks p s = s := by
  rw [claimantParks, claimOf_eq_none hc]

/-- R74: the claimant's own claim closes CANCELLED, when it has one claim open, with an id of its own. -/
theorem claimantParks_of_mem {c : Claim} (hm : c ∈ s.oc.claims) (hc : c.claimant = p)
    (one : ∀ d ∈ s.oc.claims, d.claimant = p → d = c) :
    claimantParks p s = { s with
      plu := s.plu.set p ((s.plu.get p).handOver (.answer c.ref noFlags .cancelled (.claim c.id s.oc.emap)))
      oc := s.oc.claimantOut p } := by
  have found : s.oc.claimOf p = some c :=
    find?_of_unique hm (by simpa using hc) fun d hd hP => one d hd (by simpa using hP)
  rw [claimantParks, found]
  dsimp only
  rw [endClaim_eq, hc]
  simp [Oc.claimantOut, found, bne, Bool.beq_eq_decide_eq]

/-- R141, R162: the port and its park record at a PARK. -/
def State.parking (s : State) (p : Port) (ref : Word) : State :=
  { s with
    sup := s.sup.set p { s.sup.get p with state := .parking, park := some s.cfg.tPk, stall := 0 }
    tc := { s.tc with parks := s.tc.parks.set p (some ⟨.queue, ref, none, false⟩) } }

/-- Settles O21: the port and its record, and its claims as at a fence. -/
theorem parkAccepted : Obligations.ParkAccepted := by
  intro p h s hq hl hb
  rw [exec_park_of_quiet hq, takePark_served hl hb]
  refine ⟨fun hp => by rw [if_neg (by simpa using hp)], fun hp => ?_⟩
  rw [if_pos (by simpa using hp)]
  have parking : acceptPark p h s = holderLeaves p (claimantParks p (s.parking p h.ref)) := rfl
  rw [parking, holderLeaves_eq]
  refine ⟨_, rfl, ?_⟩
  refine ⟨?frame, ?sup, ?tc, fun hc => ?held, fun c hm hc one ids => ?own⟩
  case held =>
    rw [claimantParks_of_none (s := s.parking p h.ref) hc]
    exact ⟨rfl, holderOut_eq hc⟩
  case own =>
    rw [claimantParks_of_mem (s := s.parking p h.ref) hm hc one]
    refine ⟨rfl, ?_⟩
    exact (congrArg (Oc.holderOut p) (claimantOut_of_mem hm hc one ids)).trans (holderOut_eq (by simp))
  all_goals
    unfold claimantParks
    split
    · rw [endClaim_eq]
      rfl
    · rfl

end Sys2Proof.Machine
end

section
/-! Proofs about the commit of a transfer step, and the step that ends EXHAUSTED (R62 to R64). -/

namespace Sys2Proof.Machine

/- Declarations are elaborated one after another, which keeps the check within its memory. -/
set_option Elab.async false

variable {p : Port} {s : State} {u : TransferStep} {v : Epoch}

/-! ### QUIESCE -/

theorem quiesceMet_of_calm {o : Oc} (hs : u.stage = .quiesce)
    (hc : ∀ x ∈ u.extents, ∀ e, o.extents[x]? = some e → e.inflight = 0) : o.quiesceMet u = true := by
  simp only [Oc.quiesceMet, hs, Oc.entriesOf, Bool.and_eq_true, beq_self_eq_true, List.all_eq_true, List.mem_filterMap,
    beq_iff_eq, true_and]
  rintro e ⟨x, hx, he⟩
  exact hc x hx e he

theorem exec_quiesceMetCommit (hf : s.oc.findStep u.id = some u) (hs : u.stage = .quiesce)
    (hc : ∀ x ∈ u.extents, ∀ e, s.oc.extents[x]? = some e → e.inflight = 0) :
    exec (.quiesceMetCommit u.id) s = .next (quiesceEnds u s) := by
  have arm : exec (.quiesceMetCommit u.id) s = .next (match s.oc.findStep u.id with
    | some t => if s.oc.quiesceMet t then quiesceEnds t s else s
    | none => s) := rfl
  rw [arm, hf]
  exact congrArg _ (if_pos (quiesceMet_of_calm hs hc))

/-! ### The commit -/

theorem map_mapIdx {α β γ : Type} (l : List α) (f : Nat → α → β) (g : β → γ) :
    (l.mapIdx f).map g = l.mapIdx fun x e => g (f x e) := by
  refine List.ext_getElem (by simp) fun i h1 h2 => ?_
  simp

theorem commitTable_eq (u : TransferStep) (o : Oc) : commitTable u o = { o with
    extents := o.extents.mapIdx fun x e =>
      { e with owner := if x ∈ u.extents then u.dest.join else e.owner
               epoch := if x ∈ u.extents then o.emap else e.epoch
               policy := if u.kind = .clear then .shared else e.policy } } := by
  have moved : (o.extents.mapIdx fun x e => if u.extents.contains x then
      { e with owner := u.dest.join, epoch := o.emap } else e) = o.extents.mapIdx fun x e =>
        { e with owner := if x ∈ u.extents then u.dest.join else e.owner
                 epoch := if x ∈ u.extents then o.emap else e.epoch } :=
    mapIdx_congr fun x e _ => by by_cases hx : x ∈ u.extents <;> simp [hx]
  by_cases hk : u.kind = .clear
  · simp only [commitTable, mapExtents, moved, if_pos hk, map_mapIdx]
  · simp only [commitTable, mapExtents, moved, if_neg hk]

/-- R62, R63: the map epoch of a commit, and the event that goes with its greatest value. -/
theorem commitEpoch_eq (hv : s.oc.emap ≠ BitVec.allOnes 32 → v = s.oc.emap + 1)
    (hm : s.oc.emap = BitVec.allOnes 32 → v = s.oc.emap) :
    (if s.saturated then raise .epochExhausted s else setEpoch (s.oc.emap + 1) s) = { s with
      oc := { s.oc with emap := v }
      mi := if v = BitVec.allOnes 32 then { s.mi with events := s.mi.events ||| 1024#16 } else s.mi } := by
  by_cases sat : s.oc.emap = BitVec.allOnes 32
  · rw [if_pos (saturated_iff.mpr sat), hm sat, if_pos sat]
    rfl
  · rw [saturated_eq_false sat, if_neg Bool.false_ne_true, hv sat, setEpoch, raiseIf_eq, epochExhausted_mask]
    have test : (s.oc.emap + 1 == Config.maxEpoch) = decide (s.oc.emap + 1 = BitVec.allOnes 32) :=
      Bool.beq_eq_decide_eq _ _
    rw [test]
    by_cases max : s.oc.emap + 1 = BitVec.allOnes 32
    · rw [decide_eq_true max, if_pos max]
      rfl
    · rw [decide_eq_false max, if_neg max]
      rfl

theorem commitStep_eq (hv : s.oc.emap ≠ BitVec.allOnes 32 → v = s.oc.emap + 1)
    (hm : s.oc.emap = BitVec.allOnes 32 → v = s.oc.emap) : commitStep u s = { s with
      oc := { s.oc with
        emap := v
        extents := s.oc.extents.mapIdx fun x e =>
          { e with owner := if x ∈ u.extents then u.dest.join else e.owner
                   epoch := if x ∈ u.extents then v else e.epoch
                   policy := if u.kind = .clear then .shared else e.policy }
        steps := s.oc.steps.map fun w => if w.id = u.id then { w with stage := .persist } else w }
      tc := s.tc.takePersist u.id
      ic := s.ic.takeTicket (.step u.id)
      mi := if v = BitVec.allOnes 32 then { s.mi with events := s.mi.events ||| 1024#16 } else s.mi } := by
  unfold commitStep
  dsimp only
  rw [commitEpoch_eq hv hm, enterPersist_eq]
  simp only [State.onOc, commitTable_eq]

theorem quiesceEnds_commits
    (hm : s.oc.emap = BitVec.allOnes 32 → u.kind = .takeover ∨ u.kind = .park ∨ u.kind = .clear) :
    quiesceEnds u s = commitStep u s := by
  refine if_neg ?_
  by_cases sat : s.oc.emap = BitVec.allOnes 32
  · rcases hm sat with h | h | h <;> simp [h, StepKind.survivesSaturation]
  · simp [saturated_eq_false sat]

theorem quiesceEnds_refused (hs : s.oc.emap = BitVec.allOnes 32)
    (hk : u.kind = .claim ∨ u.kind = .disclaim ∨ u.kind = .release) : quiesceEnds u s = refuseCommit u s := by
  refine if_pos ?_
  rw [saturated_iff.mpr hs]
  rcases hk with h | h | h <;> rw [h] <;> rfl

/-! ### The end of a step -/

/-- R65, R63: the Ownership Controller without the record and the marks of a step. -/
def Oc.without (u : TransferStep) (o : Oc) : Oc :=
  { o with extents := o.extents.mapIdx fun x e => if x ∈ u.extents then { e with mark := none } else e
           steps := o.steps.filter fun w => w.id ≠ u.id }

theorem endStep_eq (u : TransferStep) (s : State) : endStep u s = s.onOc (Oc.without u) := by
  simp [endStep, Oc.without, State.onOc, mapExtents, bne, Bool.beq_eq_decide_eq]

theorem settleOwed_of_none (h : ∀ c ∈ s.oc.claims, c.owed = false) : settleOwed s = s := by
  have keep : ∀ (l : List Claim), (∀ c ∈ l, c.owed = false) → l.foldl settleIfClear s = s := by
    intro l hl
    induction l with
    | nil => rfl
    | cons c l ih =>
      have first : settleIfClear s c = s := by simp [settleIfClear, hl c List.mem_cons_self]
      rw [List.foldl_cons, first]
      exact ih fun d hd => hl d (List.mem_cons_of_mem _ hd)
  exact keep _ h

theorem afterRelease_of_none (h : ∀ c ∈ s.oc.claims, c.owed = false) :
    afterRelease s = s.onOc fun o => { o with admitDue := s.oc.anyWaiting } := by
  rw [afterRelease, settleOwed_of_none h]
  rfl

theorem anyWaiting_iff {o : Oc} : (o.without u).anyWaiting = true ↔
    ∃ w ∈ o.steps, w.id ≠ u.id ∧ w.stage = .waiting := by
  simp [Oc.anyWaiting, Oc.without, and_assoc]

/-! ### A step that may not commit -/

/-- The state in which the end of a step that may not commit is reported. -/
def State.refused (s : State) (u : TransferStep) : State :=
  { s with
    mi := { s.mi with events := s.mi.events ||| 1024#16 }
    oc := s.oc.without u }

theorem refuseCommit_claim (hk : u.kind = .claim) :
    refuseCommit u s = afterRelease (claimExhausted u (s.refused u)) := by
  rw [refuseCommit, hk, endStep_eq]
  rfl

theorem refuseCommit_disclaim (hk : u.kind = .disclaim) :
    refuseCommit u s = afterRelease (disclaimEnded u .exhausted noFlags (s.refused u)) := by
  rw [refuseCommit, hk, endStep_eq]
  rfl

theorem refuseCommit_release (hk : u.kind = .release) (hp : u.port = some p) :
    refuseCommit u s = afterRelease (enrolExhausted p (s.refused u)) := by
  rw [refuseCommit, hk, hp, endStep_eq]
  rfl

theorem claimExhausted_of_claim {c : Claim} (hc : s.oc.claims.find? (fun d => d.step = some u.id) = some c) :
    claimExhausted u s = endClaim c .exhausted noFlags s := by
  have found : s.oc.claims.find? (fun d => d.step == some u.id) = some c := by
    simpa only [Bool.beq_eq_decide_eq] using hc
  rw [claimExhausted, found]

theorem claimExhausted_of_none {ref : Word} (hc : ∀ c ∈ s.oc.claims, c.step ≠ some u.id) (hp : u.port = some p)
    (hr : u.ref = some ref) : claimExhausted u s = answer p ref noFlags .exhausted (.claim 0 s.oc.emap) s := by
  have none : s.oc.claims.find? (fun d => d.step == some u.id) = none := by simpa using hc
  rw [claimExhausted, none, hp, hr]

theorem enrolExhausted_of_enrol {e : Enrolment} (he : (s.sup.get p).enrol = some e) : enrolExhausted p s =
    answer p e.ref ⟨false, false, e.accepted = .fenced, false⟩ .exhausted (s.enrolBody p)
      (s.onSup p fun y => { y with enrol := none }) := by
  rw [enrolExhausted, he]
  simp only [releaseFlags, Bool.beq_eq_decide_eq]
  rfl

/-- Settles O28: the commit as one change of each block, and the end of a step that may not commit. -/
theorem stepCommits : Obligations.StepCommits := by
  refine ⟨fun u v s hf hs hc hv hm => ?commit, fun u p ref s hf hs hk hp hr hcl hc hsat => ?disclaim,
    fun u s hf hs hc hm => ?records, fun u s v wait hf hs hc hsat hcl hw hv => ?exhausted⟩
  case commit =>
    rw [exec_quiesceMetCommit hf hs hc, quiesceEnds_commits fun h => (hm h).2, commitStep_eq hv fun h => (hm h).1]
    refine ⟨_, rfl, rfl, rfl, fun p hp => ?_, rfl, fun hb hi => Ic.takeTicket_idle hb hi,
      fun hb hi => Ic.takeTicket_busy hb hi, fun hb => Ic.takeTicket_halted hb⟩
    dsimp only
    rw [takePersist_get, if_pos hp]
  case records =>
    rw [exec_quiesceMetCommit hf hs hc, quiesceEnds_commits fun h => hm.resolve_left (not_not_intro h),
      commitStep_eq (v := if s.oc.emap = BitVec.allOnes 32 then s.oc.emap else s.oc.emap + 1) (fun h => if_neg h)
        fun h => if_pos h]
    exact ⟨_, rfl, rfl, fun p => ⟨takePersist_get _ _ _, takePersist_parks _ _ _⟩⟩
  case disclaim =>
    have ended : disclaimEnded u .exhausted noFlags (s.refused u) =
        answer p ref noFlags .exhausted (.disclaim s.oc.emap) (s.refused u) := by
      rw [disclaimEnded, hp, hr]
      rfl
    rw [exec_quiesceMetCommit hf hs hc, quiesceEnds_refused hsat (.inr (.inl hk)), refuseCommit_disclaim hk, ended,
      afterRelease_of_none]
    · exact ⟨_, rfl, rfl, anyWaiting_iff, rfl⟩
    · intro c hmem
      have none : c ∈ s.oc.claims := hmem
      rw [hcl] at none
      exact absurd none List.not_mem_nil
  case exhausted =>
    have waits : (s.oc.without u).anyWaiting = wait := Bool.eq_iff_iff.mpr (anyWaiting_iff.trans hw.symm)
    have refused : v = (s.refused u).onOc fun o => { o with admitDue := wait } := hv
    refine ⟨fun c hk hfind => ?_, fun p ref hk hnone hp hr => ?_, fun p e hk hp he => ?_⟩
    · rw [exec_quiesceMetCommit hf hs hc, quiesceEnds_refused hsat (.inl hk), refuseCommit_claim hk,
        claimExhausted_of_claim (s := s.refused u) hfind, endClaim_eq, afterRelease_of_none, refused, ← waits]
      · rfl
      · intro d hd
        exact hcl d ((List.mem_filter.mp hd).1)
    · rw [exec_quiesceMetCommit hf hs hc, quiesceEnds_refused hsat (.inl hk), refuseCommit_claim hk,
        claimExhausted_of_none (s := s.refused u) hnone hp hr, afterRelease_of_none, refused, ← waits]
      · rfl
      · exact hcl
    · rw [exec_quiesceMetCommit hf hs hc, quiesceEnds_refused hsat (.inr (.inr hk)), refuseCommit_release hk hp,
        enrolExhausted_of_enrol (s := s.refused u) he, afterRelease_of_none, refused, ← waits]
      · rfl
      · exact hcl

end Sys2Proof.Machine
end

section
/-! Proofs about served tickets: the end of a step, of a SET POLICY, of a WRITE CONFIG, of an ENROL (R65, R126, R128, R170,
R179). -/

namespace Sys2Proof.Machine

/- Declarations are elaborated one after another, which keeps the check within its memory. -/
set_option Elab.async false

variable {p : Port} {s : State} {u : TransferStep} {durable : Bool}

/-! ### One ticket -/

/-- The state in which a served ticket is delivered. -/
def State.unserved (s : State) : State := { s with ic := { s.ic with served := [] } }

theorem exec_ticketServed {k : Taker} (ha : s.oc.admitDue = false) (hs : s.ic.served = [⟨k, durable⟩]) :
    exec .ticketServed s = .next (deliverTicket ⟨k, durable⟩ s.unserved) := by
  have arm : exec .ticketServed s = .next (if s.ic.served.isEmpty then s else serveTickets s) := rfl
  have quiet : s.unserved.oc.admitDue = false := ha
  have delivered : serveNext s.unserved ⟨k, durable⟩ = deliverTicket ⟨k, durable⟩ s.unserved := by
    rw [serveNext, quiet]
    rfl
  rw [arm, serveTickets, hs]
  exact congrArg _ delivered

/-- R65: a step is released: its record goes, its marks are cleared and its end is reported. -/
theorem releaseStep_eq (u : TransferStep) (durable : Bool) (s : State) :
    releaseStep u durable s = afterRelease (reportStep u durable (s.onOc (Oc.without u))) := by
  have gone : (s.oc.steps.map fun t => if t.id == u.id then { t with durable := some durable } else t).filter
      (fun w => decide (w.id ≠ u.id)) = s.oc.steps.filter fun w => decide (w.id ≠ u.id) := by
    induction s.oc.steps with
    | nil => rfl
    | cons t l ih =>
      by_cases h : t.id = u.id <;> simp_all
  have ended : endStep u (changeStep u.id (fun t => { t with durable := some durable }) s) = s.onOc (Oc.without u) := by
    rw [endStep_eq]
    simp only [changeStep, State.onOc, Oc.without, gone]
  rw [releaseStep]
  exact congrArg (fun t => afterRelease (reportStep u durable t)) ended

/-- The state in which the end of a step is reported. -/
def State.ended (s : State) (u : TransferStep) : State := s.unserved.onOc (Oc.without u)

theorem exec_ticketServed_step (ha : s.oc.admitDue = false) (hs : s.ic.served = [⟨.step u.id, durable⟩])
    (hf : s.oc.findStep u.id = some u) : exec .ticketServed s =
      .next (afterRelease (reportStep u durable (s.ended u))) := by
  have found : s.unserved.oc.findStep u.id = some u := hf
  rw [exec_ticketServed ha hs, deliverTicket]
  dsimp only
  rw [found]
  exact congrArg _ (releaseStep_eq u durable _)

/-! ### Reports -/

theorem reportStep_disclaim (hk : u.kind = .disclaim) : reportStep u durable s =
    disclaimEnded u .done ⟨!durable, false, false, false⟩ s := by
  rw [reportStep, hk]
  rfl

theorem reportStep_claim (hk : u.kind = .claim) : reportStep u durable s = claimReleased u durable s := by
  rw [reportStep, hk]

theorem reportStep_clear (hk : u.kind = .clear) : reportStep u durable s = clearReleased u durable s := by
  rw [reportStep, hk]

theorem reportStep_release (hk : u.kind = .release) (hp : u.port = some p) :
    reportStep u durable s = enrolReleased p durable s := by
  rw [reportStep, hk, hp]

theorem disclaimEnded_oc {r : AnsResult} {flags : MsgFlags} : (disclaimEnded u r flags s).oc = s.oc := by
  unfold disclaimEnded
  split <;> rfl

theorem disclaimEnded_eq {r : AnsResult} {flags : MsgFlags} {ref : Word} (hp : u.port = some p) (hr : u.ref = some ref) :
    disclaimEnded u r flags s = answer p ref flags r (.disclaim s.oc.emap) s := by
  rw [disclaimEnded, hp, hr]

theorem claimReleased_oc (hc : s.oc.claims = []) : (claimReleased u durable s).oc = s.oc := by
  rw [claimReleased, hc, List.find?_nil]
  dsimp only
  split <;> rfl

theorem claimReleased_eq {ref : Word} (hc : s.oc.claims = []) (hp : u.port = some p) (hr : u.ref = some ref) :
    claimReleased u durable s = answer p ref ⟨!durable, false, false, false⟩ .granted (.claim 0 s.oc.emap) s := by
  rw [claimReleased, hc, List.find?_nil, hp, hr]
  rfl

theorem claimReleased_of_claim {c : Claim} (hc : s.oc.claims = [c]) (hs : c.step = some u.id) :
    claimReleased u durable s = endClaim c .granted ⟨!durable, false, false, false⟩ s := by
  have found : s.oc.claims.find? (fun d => d.step == some u.id) = some c := by simp [hc, hs]
  rw [claimReleased, found]
  rfl

/-! ### ENROL -/

/-- R126: the port still is as it was when its ENROL was accepted. -/
def StillHolds (p : Port) (e : Enrolment) (s : State) : Prop :=
  (e.accepted = s.port p ∨
    ((e.accepted = .linked ∨ e.accepted = .offline) ∧ (s.port p = .linked ∨ s.port p = .offline))) ∧
  (s.plu.get p).align ≠ .down ∧ (s.plu.get p).settled.health = .running ∧ (s.plu.get p).settled.identity = e.identity

theorem enrolHolds_iff {e : Enrolment} : s.enrolHolds p e = true ↔ StillHolds p e s := by
  simp [State.enrolHolds, StillHolds, stillAccepted, linkUp_iff, and_assoc]

/-- R126: the state in which the peer is judged after a release that its ENROL outlived. -/
def State.releasedEnrolled (s : State) (p : Port) (e : Enrolment) (durable : Bool) : State :=
  { s with
    plu := s.plu.set p ((s.plu.get p).handOver
      (.answer e.ref ⟨!durable, false, e.accepted = .fenced, true⟩ .done (s.enrolBody p)))
    sup := s.sup.set p { s.sup.get p with
      state := .enrolled, identity := e.identity, cause := .none, stall := 0, enrol := none }
    oc := { s.oc with ownerId := s.oc.ownerId.set p e.identity } }

theorem clearEnrol_port : (clearEnrol p s).port p = s.port p := by
  rw [State.port, clearEnrol, State.onSup_sup, PerPort.get_set_self]
  rfl

theorem enrolReleased_holds {e : Enrolment} (he : (s.sup.get p).enrol = some e) (hh : StillHolds p e s) :
    enrolReleased p durable s = judge p.peer (s.releasedEnrolled p e durable) := by
  have holds : (clearEnrol p s).enrolHolds p e = true := by
    obtain ⟨accepted, rest⟩ := hh
    exact enrolHolds_iff.mpr ⟨by rwa [clearEnrol_port], rest⟩
  rw [enrolReleased, he]
  dsimp only
  rw [if_pos holds]
  have identity : ((clearEnrol p s).plu.get p).settled.identity = e.identity := hh.2.2.2
  simp only [enterEnrolled, identity, releaseFlags, Bool.beq_eq_decide_eq]
  simp only [clearEnrol, State.onSup, State.onOc, PerPort.set_set, PerPort.get_set_self]
  rfl

theorem enrolReleased_lost {e : Enrolment} (he : (s.sup.get p).enrol = some e) (hh : ¬ StillHolds p e s) :
    enrolReleased p durable s = answer p e.ref ⟨!durable, false, e.accepted = .fenced, true⟩ .notReady (s.enrolBody p)
      (s.onSup p fun y => { y with enrol := none }) := by
  have lost : ¬ (clearEnrol p s).enrolHolds p e = true := fun h => hh (by
    obtain ⟨accepted, rest⟩ := enrolHolds_iff.mp h
    exact ⟨by rwa [clearEnrol_port] at accepted, rest⟩)
  rw [enrolReleased, he]
  dsimp only
  rw [if_neg lost]
  simp only [releaseFlags, Bool.beq_eq_decide_eq]
  rfl

end Sys2Proof.Machine
end

section
/-! Proofs about served tickets: every end that a ticket may bring (R65, R126, R128, R170, R179, R185, R187). -/

namespace Sys2Proof.Machine

/- Declarations are elaborated one after another, which keeps the check within its memory. -/
set_option Elab.async false

variable {p : Port} {s : State} {u : TransferStep} {durable : Bool}

/-! ### Judgements while no claim is open -/

theorem fencePort_oc (p : Port) (cause : FenceCause) (s : State) : (fencePort p cause s).oc = s.oc ∨
    (fencePort p cause s).oc = (s.oc.claimantOut p).holderOut p := by
  by_cases hn : s.port p = .fenced ∨ s.ic.bridge = .starting
  · have same : fencePort p cause s = s := by rcases hn with h | h <;> simp [fencePort, h]
    exact .inl (by rw [same])
  · obtain ⟨hf, hb⟩ := not_or.mp hn
    exact .inr (by rw [fencePort_eq hf hb])

theorem outOfClaims_of_nil {o : Oc} (h : o.claims = []) : (o.claimantOut p).holderOut p = o := by
  have none : ∀ c ∈ o.claims, c.claimant ≠ p := by simp [h]
  rw [claimantOut_of_none none, holderOut_eq none, h, List.map_nil, ← h]

/-- R133, R134: with no claim open, the judgement of a port leaves the Ownership Controller alone. -/
theorem judge_oc (h : s.oc.claims = []) : (judge p s).oc = s.oc := by
  have fenced (cause : FenceCause) : (fencePort p cause s).oc = s.oc :=
    (fencePort_oc p cause s).elim id fun h' => h'.trans (outOfClaims_of_nil h)
  unfold judge
  split
  · split
    · rfl
    all_goals
      split
      · exact fenced _
      · rfl
  · rfl

/-! ### The ticket of an ENROL in RECOVERY -/

/-- R128, R30: the answer to an ENROL whose ticket is served. -/
theorem enrolServed_later {first : Bool} {e : Enrolment} (he : (s.sup.get p).enrol = some e)
    (hf : first = false ∨ s.ic.bridge ≠ .recovery) : enrolServed p first durable s = { s with
      plu := s.plu.set p ((s.plu.get p).handOver
        (.answer e.ref ⟨!durable, false, e.accepted = .fenced, false⟩ .done (s.enrolBody p)))
      sup := s.sup.set p { s.sup.get p with enrol := none } } := by
  have later : ¬ (first && s.ic.bridge == .recovery) = true := by rcases hf with h | h <;> simp [h]
  rw [enrolServed, if_neg later, he]
  simp only [releaseFlags, Bool.beq_eq_decide_eq]
  rfl

theorem enrolServed_first {e : Enrolment} (he : (s.sup.get p).enrol = some e) (hb : s.ic.bridge = .recovery) :
    enrolServed p true durable s = { s with
      plu := s.plu.set p ((s.plu.get p).handOver
        (.answer e.ref ⟨!durable, false, e.accepted = .fenced, false⟩ .done (s.enrolBody p)))
      sup := s.sup.set p { s.sup.get p with enrol := none }
      startWindow := some s.cfg.tSw
      ic := { s.ic with bridge := .service }
      au := { s.au with
        depth := ⟨s.cfg.depth, s.cfg.depth⟩, w := 0, granted := ⟨0, 0⟩
        window := some ⟨s.cfg.window, ⟨s.guaranteeNow .a, s.guaranteeNow .b⟩⟩ } } := by
  have begun : (true && s.ic.bridge == .recovery) = true := by simp [hb]
  have enrol : ((enterService s).sup.get p).enrol = some e := he
  rw [enrolServed, if_pos begun, enrol]
  simp only [releaseFlags, Bool.beq_eq_decide_eq]
  rfl

/-! ### The report of a step that ends -/

theorem afterRelease_reported {t : State} (hoc : t.oc = s.oc.without u) (hc : s.oc.claims = []) :
    afterRelease t = { t with oc := { s.oc.without u with admitDue := (s.oc.without u).anyWaiting } } := by
  have none : t.oc.claims = [] := by rw [hoc]; exact hc
  rw [afterRelease_of_none (by simp [none]), State.onOc, hoc]

theorem noneOwed_of_nil (hc : s.oc.claims = []) : ∀ c ∈ s.oc.claims, c.owed = false := by
  simp [hc]

theorem clearReleased_oc : (clearReleased u durable s).oc = s.oc := rfl

/-- R62, R70: one list in which the marks of a step and the claim fields of a claim are cleared. -/
theorem without_claim (es : List Extent) (xs : List Nat) (id : Byte) :
    ((es.mapIdx fun x e => if x ∈ xs then { e with mark := none } else e).map fun e =>
      if e.claim = some id then { e with claim := none } else e) =
    es.mapIdx fun x e => { e with mark := if x ∈ xs then none else e.mark
                                  claim := if e.claim = some id then none else e.claim } := by
  rw [map_mapIdx]
  refine mapIdx_congr fun x e _ => ?_
  by_cases hx : x ∈ xs <;> by_cases hc : e.claim = some id <;> simp [hx, hc]

/-- Settles O31: each kind of ticket by what its end is. -/
theorem ticketServed : Obligations.TicketServed := by
  refine ⟨fun s durable ha => ⟨fun p ref hs => ?policy, fun clamped held hs => ?config, fun u hs hf hc => ?step⟩,
    fun s durable u c ha hs hf hk hc hstep => ?claim, ⟨fun s durable first p e ha hs he => ?enrol,
    fun s durable u p e ha hs hf hk hp hc he hj => ?release⟩,
    fun s v durable wait u p e ha hs hf hk hp hc he hw hacc hal hh hid hv => ?judged⟩
  case policy =>
    rw [exec_ticketServed ha hs]
    rfl
  case config =>
    rw [exec_ticketServed ha hs]
    rfl
  case step =>
    have none : ∀ c ∈ s.oc.claims, c.owed = false := by simp [hc]
    rw [exec_ticketServed_step ha hs hf]
    refine ⟨_, rfl, fun hk => ?_, fun p ref hk hp hr => ?_, fun p ref hk hp hr => ?_, fun hk => ?_⟩
    · have reported : (reportStep u durable (s.ended u)).oc = s.oc.without u := by
        rcases hk with hk | hk | hk
        · rw [reportStep_disclaim hk, disclaimEnded_oc]
          rfl
        · rw [reportStep_claim hk, claimReleased_oc (s := s.ended u) hc]
          rfl
        · rw [reportStep_clear hk, clearReleased_oc]
          rfl
      rw [afterRelease_reported reported hc]
      exact ⟨rfl, anyWaiting_iff⟩
    · rw [reportStep_disclaim hk, disclaimEnded_eq hp hr, afterRelease_reported (s := s) (u := u) rfl hc]
      rfl
    · rw [reportStep_claim hk, claimReleased_eq (s := s.ended u) hc hp hr, afterRelease_reported (s := s) (u := u) rfl hc]
      rfl
    · rw [reportStep_clear hk, afterRelease_reported (s := s) (u := u) rfl hc]
      rfl
  case claim =>
    have closed : (s.oc.claims.filter fun d => decide (d.id ≠ c.id)) = [] := by simp [hc]
    rw [exec_ticketServed_step ha hs hf, reportStep_claim hk,
      claimReleased_of_claim (s := s.ended u) hc hstep, endClaim_eq, afterRelease_of_none]
    · refine ⟨_, rfl, rfl, ?_, anyWaiting_iff⟩
      have extents := without_claim s.oc.extents u.extents c.id
      rw [← extents, ← closed]
      rfl
    · exact noneOwed_of_nil closed
  case enrol =>
    rw [exec_ticketServed ha hs, deliverTicket]
    dsimp only
    by_cases hn : first = false ∨ s.ic.bridge ≠ .recovery
    · rw [enrolServed_later (s := s.unserved) he hn]
      refine ⟨_, rfl, rfl, rfl, rfl, fun _ => ⟨rfl, rfl, rfl⟩, fun hf hb => ?_⟩
      exact absurd hn (by simp [hf, hb])
    · obtain ⟨hf, hb⟩ : first = true ∧ s.ic.bridge = .recovery := by simpa using hn
      rw [hf, enrolServed_first (s := s.unserved) he hb]
      refine ⟨_, rfl, rfl, rfl, rfl, fun h => absurd h (by simp [hb]), fun _ _ => ⟨rfl, rfl, ?_⟩⟩
      simp only [State.guaranteeNow, Bool.or_eq_true, decide_eq_true_eq]
      rfl
  case release =>
    rw [exec_ticketServed_step ha hs hf, reportStep_release hk hp]
    by_cases hh : StillHolds p e s
    · have calm : judge p.peer ((s.ended u).releasedEnrolled p e durable) =
          (s.ended u).releasedEnrolled p e durable :=
        judge_of_not_judged ((congrArg Supervisor.judged (PerPort.get_set_peer _ _ _)).trans hj)
      rw [enrolReleased_holds (s := s.ended u) he hh, calm, afterRelease_of_none]
      · refine ⟨_, rfl, rfl, rfl, rfl, rfl, fun _ _ _ _ => ⟨rfl, rfl, rfl⟩, fun hn => ?_⟩
        obtain ⟨accepted, align, health, identity⟩ := hh
        exact absurd hn (by simp [accepted, align, health, identity])
      · exact noneOwed_of_nil hc
    · rw [enrolReleased_lost (s := s.ended u) he hh, afterRelease_of_none]
      · refine ⟨_, rfl, rfl, rfl, rfl, rfl, fun h1 h2 h3 h4 => absurd ⟨h1, h2, h3, h4⟩ hh, fun _ => ⟨rfl, rfl, rfl⟩⟩
      · exact noneOwed_of_nil hc
  case judged =>
    have state : v = (s.ended u).releasedEnrolled p e durable := hv
    have claims : v.oc.claims = [] := by rw [state]; exact hc
    have judged := judge_oc (p := p.peer) claims
    refine ⟨judge p.peer v, judge_peerJudged p v, ?_⟩
    rw [exec_ticketServed_step ha hs hf, reportStep_release hk hp,
      enrolReleased_holds (s := s.ended u) he ⟨hacc, hal, hh, hid⟩, ← state, afterRelease_of_none]
    · have waits : v.oc.anyWaiting = wait := by
        rw [state]
        exact Bool.eq_iff_iff.mpr (anyWaiting_iff.trans hw.symm)
      rw [State.onOc, judged, waits]
    · exact noneOwed_of_nil (judged ▸ claims)

end Sys2Proof.Machine
end

section
/-! Proofs about the ends of takeovers and parks: their notices, and the claim that waits on the port (R73, R146, R152,
R164, R165, R190). -/

namespace Sys2Proof.Machine

/- Declarations are elaborated one after another, which keeps the check within its memory. -/
set_option Elab.async false

variable {p : Port} {s : State} {u : TransferStep} {durable wait : Bool}

/-! ### Notices -/

/-- R19, R152, R164: a link that hands over a HANDOVER NOTICE. -/
def Plu.notice (m : OutMsg) (u : Plu) : Plu := { u.handOver m with handover := true }

/-- R152, R164: the destination of a handover is told, when it is a port. -/
def State.notified (dest : Option Port) (m : OutMsg) (s : State) : State :=
  match dest with
  | none => s
  | some q => s.onPlu q (Plu.notice m)

theorem handoverNotice_eq {kind : HandoverKind} {port : Port} {dest : Option Port} {moved : Nat} {setId : Word}
    {entries : Nat} : handoverNotice kind port dest moved setId entries durable s = s.notified dest
      (.handoverNotice kind port s.oc.emap moved (if entries = 0 then 0 else setId) entries (!durable)) := by
  cases dest with
  | none => rfl
  | some q => simp only [handoverNotice, handOver, State.onPlu_onPlu, State.notified]; rfl

theorem notified_eq (dest : Option Port) (m : OutMsg) (s : State) :
    s.notified dest m = { s with plu := (s.notified dest m).plu } := by
  cases dest <;> rfl

theorem notified_plu {dest : Option Port} {m : OutMsg} (hd : dest ≠ some p) : (s.notified dest m).plu =
    s.plu.set p.peer (if dest = some p.peer then (s.plu.get p.peer).notice m else s.plu.get p.peer) := by
  cases dest with
  | none => exact (PerPort.set_get _ _).symm
  | some q =>
    have other : q = p.peer := by
      have ne : q ≠ p := fun h => hd (congrArg some h)
      revert ne
      cases p <;> cases q <;> decide
    rw [other, if_pos rfl]
    rfl

/-! ### Reports -/

/-- R73: the claims that wait on a port are owed their settlement. -/
def Oc.owing (p : Port) (o : Oc) : Oc :=
  { o with claims := o.claims.map fun c => if c.holder == p && c.state == .waiting then { c with owed := true } else c }

theorem oweClaims_eq : oweClaims p s = s.onOc (Oc.owing p) := rfl

theorem takeoverDone_mask : Event.takeoverDone.mask = 2#16 := rfl

/-- R152: the notice of a takeover that ends. -/
def State.takeoverNotice (s : State) (p : Port) (u : TransferStep) (durable : Bool) : OutMsg :=
  .handoverNotice .takeover p s.oc.emap u.extents.length
    (if (s.tc.records.get p).count = 0 then 0 else (s.tc.records.get p).setId) (s.tc.records.get p).count (!durable)

/-- R164: the notice of a park that ends. -/
def State.parkNotice (s : State) (p : Port) (u : TransferStep) (durable : Bool) : OutMsg :=
  .handoverNotice .park p s.oc.emap u.extents.length 0 0 (!durable)

theorem reportStep_takeover (hk : u.kind = .takeover) (hp : u.port = some p)
    (hc : ∀ x ∈ s.tc.closing, x.step ≠ u.id) (hr : (s.tc.records.get p).step = some u.id) :
    reportStep u durable s = { s with
      plu := (s.notified u.dest.join (s.takeoverNotice p u durable)).plu
      tc := { s.tc with records := s.tc.records.set p { s.tc.records.get p with stage := .closed, step := none } }
      oc := s.oc.owing p
      mi := { s.mi with events := s.mi.events ||| 2#16 } } := by
  have none : s.tc.closing.find? (fun x => x.step == u.id) = none := by simpa using hc
  rw [reportStep, hk, hp]
  dsimp only
  rw [takeoverReleased, none]
  dsimp only
  rw [if_pos (by simpa using hr), closeTakeover]
  simp only [handoverNotice_eq, oweClaims_eq, raise, takeoverDone_mask]
  cases u.dest.join <;> rfl

theorem reportStep_closing {x : Closing} (hk : u.kind = .takeover) (hp : u.port = some p)
    (hc : s.tc.closing.find? (fun y => y.step = u.id) = some x) :
    reportStep u durable s = { s with
      plu := (s.notified x.dest (.handoverNotice .takeover x.port s.oc.emap u.extents.length
        (if x.count = 0 then 0 else x.setId) x.count (!durable))).plu
      tc := { s.tc with closing := s.tc.closing.filter fun y => y.step ≠ u.id }
      mi := { s.mi with events := s.mi.events ||| 2#16 } } := by
  have found : s.tc.closing.find? (fun x => x.step == u.id) = some x := by simpa only [Bool.beq_eq_decide_eq] using hc
  rw [reportStep, hk, hp]
  dsimp only
  rw [takeoverReleased, found]
  simp only [closeClosing, handoverNotice_eq, raise, takeoverDone_mask, bne, Bool.beq_eq_decide_eq, ne_eq, decide_not]
  cases x.dest <;> rfl

theorem reportStep_park {r : ParkRecord} (hk : u.kind = .park) (hp : u.port = some p) (hr : s.tc.parks.get p = some r)
    (hs : r.step = some u.id) (hc : r.cut = false) : reportStep u durable s = { s with
      plu := ((answer p r.ref ⟨!durable, false, false, false⟩ .done (.park s.oc.emap) s).notified u.dest.join
        (s.parkNotice p u durable)).plu
      sup := s.sup.set p { s.sup.get p with state := .parked, park := none }
      tc := { s.tc with parks := s.tc.parks.set p none }
      oc := s.oc.owing p } := by
  rw [reportStep, hk, hp]
  dsimp only
  rw [parkReleased, hr]
  dsimp only
  rw [if_pos (by simpa using hs), hc, if_neg Bool.false_ne_true, completePark]
  simp only [handoverNotice_eq, oweClaims_eq]
  cases u.dest.join <;> rfl

theorem reportStep_cutPark {r : ParkRecord} (hk : u.kind = .park) (hp : u.port = some p)
    (hr : s.tc.parks.get p = some r) (hs : r.step = some u.id) (hc : r.cut = true) : reportStep u durable s = { s with
      plu := (s.notified u.dest.join (s.parkNotice p u durable)).plu
      tc := { s.tc with parks := s.tc.parks.set p none } } := by
  rw [reportStep, hk, hp]
  dsimp only
  rw [parkReleased, hr]
  dsimp only
  rw [if_pos (by simpa using hs), hc, if_pos rfl]
  simp only [handoverNotice_eq]
  cases u.dest.join <;> rfl

/-! ### The settlement of one claim -/

theorem settleClaim_admitDue (c : Claim) (w : Bool) (s : State) :
    settleClaim c (s.onOc fun o => { o with admitDue := w }) =
      (settleClaim c s).onOc fun o => { o with admitDue := w } := by
  unfold settleClaim
  by_cases held : ((s.oc.run c.first c.count).any fun e => e.owner == some c.holder) = true
  · rw [if_pos held]
    exact if_pos held
  · rw [if_neg held]
    refine (if_neg held).trans ?_
    by_cases free : ((s.oc.run c.first c.count).any fun e => e.owner == none) = true
    · rw [if_pos free]
      refine (if_pos free).trans ?_
      by_cases sat : s.saturated = true
      · rw [if_pos sat]
        exact if_pos sat
      · rw [if_neg sat]
        exact if_neg sat
    · rw [if_neg free]
      exact if_neg free

theorem settleClaim_anyWaiting (c : Claim) (s : State) : (settleClaim c s).oc.anyWaiting = s.oc.anyWaiting := by
  unfold settleClaim
  split
  · rfl
  · split
    · split
      · rfl
      · simp [transferClaim, startStep, changeClaim, Oc.anyWaiting, mapExtents]
    · rfl

/-- R73, R60: what follows the end of a step when one claim is open that is owed its settlement. -/
theorem afterRelease_of_owed {c : Claim} (hc : s.oc.claims = [c]) (ho : c.owed = true) (hs : c.state = .waiting)
    (hw : s.oc.anyWaiting = wait) :
    ((∃ e ∈ (s.oc.extents.drop c.first).take c.count, e.mark ≠ none) →
      afterRelease s = s.onOc fun o => { o with admitDue := wait }) ∧
    ((∀ e ∈ (s.oc.extents.drop c.first).take c.count, e.mark = none) →
      afterRelease s = settleClaim c (s.onOc fun o => { o with admitDue := wait })) := by
  have one : settleOwed s = settleIfClear s c := by rw [settleOwed, hc, List.foldl_cons, List.foldl_nil]
  refine ⟨fun ⟨e, he, hm⟩ => ?_, fun hm => ?_⟩
  · have marked : settleIfClear s c = s := if_neg fun h => by
      simp only [Bool.and_eq_true, List.all_eq_true, Option.isNone_iff_eq_none] at h
      exact hm (h.2 e he)
    rw [afterRelease, one, marked]
    simp only [State.onOc, hw]
  · have clear : settleIfClear s c = settleClaim c s := if_pos (by
      simpa [ho, hs, Oc.run] using hm)
    rw [afterRelease, one, clear, settleClaim_admitDue, ← hw, ← settleClaim_anyWaiting c s]
    rfl

/-- R73: what the end of a step makes of the state `v` in which its settlement is looked at. -/
theorem released_settles {c : Claim} {R v : State} (hv : v = R.onOc fun o => { o with admitDue := wait })
    (hc : R.oc.claims = [c]) (ho : c.owed = true) (hs : c.state = .waiting) (hw : R.oc.anyWaiting = wait) :
    ((∃ e ∈ (v.oc.extents.drop c.first).take c.count, e.mark ≠ none) → afterRelease R = v) ∧
    ((∀ e ∈ (v.oc.extents.drop c.first).take c.count, e.mark = none) → ClaimSettled c v (afterRelease R)) := by
  obtain ⟨marked, clear⟩ := afterRelease_of_owed hc ho hs hw
  have extents : v.oc.extents = R.oc.extents := by rw [hv]; rfl
  rw [extents]
  refine ⟨fun hm => (marked hm).trans hv.symm, fun hm => ?_⟩
  rw [clear hm, ← hv]
  exact settleClaim_settled (by rw [hv]; exact hc)

theorem exec_ticketServed_settles {c : Claim} {R v : State} (hx : exec .ticketServed s = .next (afterRelease R))
    (hv : v = R.onOc fun o => { o with admitDue := wait }) (hc : R.oc.claims = [c]) (ho : c.owed = true)
    (hs : c.state = .waiting) (hw : R.oc.anyWaiting = wait) :
    ((∃ e ∈ (v.oc.extents.drop c.first).take c.count, e.mark ≠ none) → exec .ticketServed s = .next v) ∧
    ((∀ e ∈ (v.oc.extents.drop c.first).take c.count, e.mark = none) →
      ∃ t : State, exec .ticketServed s = .next t ∧ ClaimSettled c v t) := by
  obtain ⟨marked, clear⟩ := released_settles hv hc ho hs hw
  exact ⟨fun hm => hx.trans (congrArg _ (marked hm)), fun hm => ⟨_, hx, clear hm⟩⟩

/-- Settles O32: each end by what it reports, and then the settlement that it leaves to make. -/
theorem handoverCompletes : Obligations.HandoverCompletes := by
  refine ⟨fun s durable u p ha hs hf hc hp => ⟨fun dest hk hd hcl hr => ?takeover, fun dest r hk hd hr hst hcut hdp => ?park⟩,
    fun s v durable wait u p dest c notice own sup tc events ha hs hf hp hd hdp hc hcp hcs hw hcase hv => ?owed,
    fun s v durable wait u q ref c ha hs hf hk hp hr hc hcs ho hw hv => ?disclaim,
    fun s durable wait u p dest notice tc events ha hs hf hp hc hw hcase => ?noClaim⟩
  case takeover =>
    have join : u.dest.join = dest := by rw [hd]; rfl
    rw [exec_ticketServed_step ha hs hf, reportStep_takeover (s := s.ended u) hk hp hcl hr, join,
      afterRelease_of_none (noneOwed_of_nil (congrArg (List.map _) hc))]
    refine ⟨_, rfl, rfl, rfl, rfl, rfl, rfl, fun h => ?_, fun q h => ?_⟩
    · rw [h]
      rfl
    · rw [h]
      rfl
  case park =>
    have join : u.dest.join = dest := by rw [hd]; rfl
    rw [exec_ticketServed_step ha hs hf, reportStep_park (s := s.ended u) hk hp hr hst hcut, join,
      afterRelease_of_none (noneOwed_of_nil (congrArg (List.map _) hc))]
    refine ⟨_, rfl, rfl, rfl, rfl, rfl, rfl, ?_, fun h => ?_, fun h => ?_⟩
    · dsimp only [State.onOc]
      rw [notified_plu hdp, PerPort.get_set_of_ne _ _ (Port.peer_ne p).symm]
      exact PerPort.get_set_self _ _ _
    · dsimp only [State.onOc]
      rw [notified_plu hdp, PerPort.get_set_self, if_pos h]
      exact congrArg (Plu.notice _) (PerPort.get_set_peer _ _ _)
    · dsimp only [State.onOc]
      rw [notified_plu hdp, PerPort.get_set_self, if_neg (by simp [h])]
      exact PerPort.get_set_peer _ _ _
  case owed =>
    have join : u.dest.join = dest := by rw [hd]; rfl
    have claims : ((s.ended u).oc.owing p).claims = [{ c with owed := true }] := by
      have mine : c.holder = p := by rw [holder_eq_iff_peer, hcp]
      have shape : ((s.ended u).oc.owing p).claims = s.oc.claims.map fun c =>
        if c.holder == p && c.state == .waiting then { c with owed := true } else c := rfl
      rw [shape, hc]
      simp [mine, hcs]
    have waits : (s.oc.without u).anyWaiting = wait := Bool.eq_iff_iff.mpr (anyWaiting_iff.trans hw.symm)
    have ended := exec_ticketServed_step ha hs hf
    rcases hcase with ⟨hk, hcl, hr, rfl, rfl, rfl, rfl, rfl⟩ | ⟨hk, ⟨r, hr, hst, hcut, rfl⟩, rfl, rfl, rfl, rfl⟩
    · rw [reportStep_takeover (s := s.ended u) hk hp hcl hr, join] at ended
      refine exec_ticketServed_settles (c := { c with owed := true }) ended ?_ claims rfl hcs waits
      rw [hv, ← claims, notified_plu hdp, PerPort.set_get]
      rfl
    · rw [reportStep_park (s := s.ended u) hk hp hr hst hcut, join] at ended
      refine exec_ticketServed_settles (c := { c with owed := true }) ended ?_ claims rfl hcs waits
      rw [hv, ← claims, notified_plu hdp, answer, handOver_plu, PerPort.get_set_peer]
      rfl
  case disclaim =>
    have waits : (s.oc.without u).anyWaiting = wait := Bool.eq_iff_iff.mpr (anyWaiting_iff.trans hw.symm)
    have ended := exec_ticketServed_step ha hs hf
    rw [reportStep_disclaim hk, disclaimEnded_eq hp hr] at ended
    exact exec_ticketServed_settles ended hv hc ho hcs waits
  case noClaim =>
    have waits : (s.oc.without u).anyWaiting = wait := Bool.eq_iff_iff.mpr (anyWaiting_iff.trans hw.symm)
    rw [exec_ticketServed_step ha hs hf]
    rcases hcase with ⟨x, hk, hx, rfl, rfl, rfl, rfl⟩ | ⟨r, hk, hd, hr, hst, hcut, rfl, rfl, rfl⟩
    · rw [reportStep_closing (s := s.ended u) hk hp hx, afterRelease_of_none (by exact hc), ← waits]
      cases x.dest <;> rfl
    · have join : u.dest.join = dest := by rw [hd]; rfl
      rw [reportStep_cutPark (s := s.ended u) hk hp hr hst hcut, join, afterRelease_of_none (by exact hc), ← waits]
      cases dest <;> rfl

end Sys2Proof.Machine
end

section
/-! Proofs about drive commands: their arrival (R24, R25, R78, R79), WRITE DATA (R27), the arbiter (R82, R93) and the issue
check (R87 to R91). -/

namespace Sys2Proof.Machine

/- Declarations are elaborated one after another, which keeps the check within its memory. -/
set_option Elab.async false

variable {p : Port} {h : Header} {s : State}

/-! ### Arrival -/

theorem exec_read_of_quiet {ec : Epoch} {lba : BitVec 48} {n : Word} (hq : Quiet s) :
    exec (.read p h ec lba n) s = .next (takeRead p h ec lba n s) := by
  have arm : exec (.read p h ec lba n) s = .next (takeRead p h ec lba n (settle s)) := rfl
  rw [arm, settle_of_quiet hq]

theorem exec_write_of_quiet {ec : Epoch} {lba : BitVec 48} {n : Word} (hq : Quiet s) :
    exec (.write p h ec lba n) s = .next (takeWrite p h ec lba n s) := by
  have arm : exec (.write p h ec lba n) s = .next (takeWrite p h ec lba n (settle s)) := rfl
  rw [arm, settle_of_quiet hq]

theorem exec_flush_of_quiet {ec : Epoch} (hq : Quiet s) : exec (.flush p h ec) s = .next (takeFlush p h ec s) := by
  have arm : exec (.flush p h ec) s = .next (takeFlush p h ec (settle s)) := rfl
  rw [arm, settle_of_quiet hq]

theorem exec_writeData_of_quiet {off : BitVec 32} {bytes : List Byte} (hq : Quiet s) :
    exec (.writeData p h off bytes) s = .next (takeWriteData p h off bytes s) := by
  have arm : exec (.writeData p h off bytes) s = .next (takeWriteData p h off bytes (settle s)) := rfl
  rw [arm, settle_of_quiet hq]

section DriveCommand

variable {len : Nat} {op : Op} {ec : Epoch} {range : Option (BitVec 48 × Word)}

theorem driveCommand_invalid (hr : lengthInRange h.length = true) (hb : h.length.toNat ≠ len ∨ 63#16 < h.ref) :
    driveCommand p h len op ec range s = complete p h.ref .invalid s := by
  by_cases hl : h.length.toNat = len
  · rw [driveCommand, byLength_right hr hl, if_pos (hb.resolve_left (not_not_intro hl))]
  · exact byLength_wrong hr hl

theorem driveCommand_admitted (hl : HasLength h len) (ht : h.ref ≤ 63#16) :
    driveCommand p h len op ec range s = admitCommand p h.ref op ec range s := by
  rw [driveCommand, byLength_right hl.1 hl.2, if_neg (by bv_omega)]

theorem admitCommand_refused {tag : Word} {st : CompStatus} (hc : s.arrivalCheck p tag range = some st) :
    admitCommand p tag op ec range s = complete p tag st s := by
  rw [admitCommand, hc]

theorem admitCommand_queued {tag : Word} (hc : s.arrivalCheck p tag range = none) :
    admitCommand p tag op ec range s = enqueue p (s.recordOf tag op ec range) s := by
  rw [admitCommand, hc]

theorem arrivalCheck_inService {tag : Word} (hb : s.ic.bridge = .service) (hp : s.port p = .enrolled) :
    s.arrivalCheck p tag range =
      if rangeEmpty range then some .invalid
      else if rangeBeyond s.oc.visible range then some .range
      else if s.tagInUse p tag then some .tagInUse
      else if s.au.depth.get p ≤ (s.au.queue.get p).length then some .retry
      else none := by
  simp [State.arrivalCheck, hb, hp]

end DriveCommand

/-- The range of a command and the op, by its kind: what the three drive commands come to. -/
theorem exec_driveCommand {ec : Epoch} {lba : BitVec 48} {n : Word} {c : Instr} (hq : Quiet s) (ht : h.ref ≤ 63#16)
    (hc : ((c = .read p h ec lba n ∨ c = .write p h ec lba n) ∧ h.length = 18#16) ∨
      (c = .flush p h ec ∧ h.length = 10#16)) :
    ∃ (op : Op) (range : Option (BitVec 48 × Word)), exec c s = .next (admitCommand p h.ref op ec range s) ∧
      (c ≠ .flush p h ec → range = some (lba, n)) ∧ (c = .flush p h ec → range = none) := by
  rcases hc with ⟨rfl | rfl, hl⟩ | ⟨rfl, hl⟩
  · exact ⟨.read, some (lba, n), by
      rw [exec_read_of_quiet hq, takeRead, driveCommand_admitted (hasLength_of_eq hl) ht], fun _ => rfl, fun h => nomatch h⟩
  · exact ⟨.write, some (lba, n), by
      rw [exec_write_of_quiet hq, takeWrite, driveCommand_admitted (hasLength_of_eq hl) ht], fun _ => rfl,
      fun h => nomatch h⟩
  · exact ⟨.flush, none, by
      rw [exec_flush_of_quiet hq, takeFlush, driveCommand_admitted (hasLength_of_eq hl) ht], fun h => absurd rfl h,
      fun _ => rfl⟩

/-- Settles O13: length and tag, the arrival check in its order, and the record that joins the queue. -/
theorem driveCommandAdmitted : Obligations.DriveCommandAdmitted := by
  refine ⟨fun p h ec lba n s hq => ⟨fun h6 h4106 => ⟨fun hb => ?lost, fun hb => ?lostFlush⟩, fun ht c hc => ?checked⟩,
    fun p h ec lba n s hq hb hp ht hu hd => ⟨fun hl hn hv => ?queued, fun hl => ?queuedFlush⟩⟩
  case lost =>
    have range := lengthInRange_iff.mpr ⟨h6, h4106⟩
    have bad : h.length.toNat ≠ 18 ∨ 63#16 < h.ref := hb.imp (fun hl he => hl (BitVec.eq_of_toNat_eq he)) id
    rw [exec_read_of_quiet hq, exec_write_of_quiet hq]
    exact ⟨congrArg _ (driveCommand_invalid range bad), congrArg _ (driveCommand_invalid range bad)⟩
  case lostFlush =>
    have range := lengthInRange_iff.mpr ⟨h6, h4106⟩
    have bad : h.length.toNat ≠ 10 ∨ 63#16 < h.ref := hb.imp (fun hl he => hl (BitVec.eq_of_toNat_eq he)) id
    rw [exec_flush_of_quiet hq]
    exact congrArg _ (driveCommand_invalid range bad)
  case checked =>
    obtain ⟨op, range, hx, hrange, hnone⟩ := exec_driveCommand hq ht hc
    rw [hx]
    refine ⟨fun hb => ?_, fun hb => ⟨fun hp => ?_, fun hf hp => ?_, fun hp => ⟨fun hnf hn => ?_, fun hnf hn hv => ?_,
      fun hok => ⟨fun hu => ?_, fun hu hd => ?_⟩⟩⟩⟩
    · exact congrArg _ (admitCommand_refused (by simp [State.arrivalCheck, hb]))
    · exact congrArg _ (admitCommand_refused (by simp [State.arrivalCheck, hb, hp]))
    · exact congrArg _ (admitCommand_refused (by simp [State.arrivalCheck, hb, hp, hf]))
    · refine congrArg _ (admitCommand_refused ?_)
      rw [arrivalCheck_inService hb hp, hrange hnf]
      exact if_pos (by simpa [rangeEmpty] using hn)
    · refine congrArg _ (admitCommand_refused ?_)
      rw [arrivalCheck_inService hb hp, hrange hnf]
      refine (if_neg (by simpa [rangeEmpty] using hn)).trans (if_pos ?_)
      simpa [rangeBeyond] using hv
    all_goals
      have good : rangeEmpty range = false ∧ rangeBeyond s.oc.visible range = false := by
        by_cases hfl : c = .flush p h ec
        · rw [hnone hfl]
          exact ⟨rfl, rfl⟩
        · obtain ⟨hn, hv⟩ := hok.resolve_left hfl
          rw [hrange hfl]
          exact ⟨by simpa [rangeEmpty] using hn, by simpa [rangeBeyond] using hv⟩
      refine congrArg _ (admitCommand_refused ?_)
      rw [arrivalCheck_inService hb hp, good.1, good.2, hu]
    · rfl
    · exact if_pos hd
  case queued =>
    have full : ¬ s.au.depth.get p ≤ (s.au.queue.get p).length := by omega
    have passed : s.arrivalCheck p h.ref (some (lba, n)) = none := by
      have nonempty : rangeEmpty (some (lba, n)) = false := by simpa [rangeEmpty] using hn
      have inside : rangeBeyond s.oc.visible (some (lba, n)) = false := by simpa [rangeBeyond] using hv
      rw [arrivalCheck_inService hb hp, nonempty, inside, hu]
      exact if_neg full
    rw [exec_read_of_quiet hq, exec_write_of_quiet hq, takeRead, takeWrite, driveCommand_admitted (hasLength_of_eq hl) ht,
      driveCommand_admitted (hasLength_of_eq hl) ht, admitCommand_queued passed, admitCommand_queued passed]
    exact ⟨rfl, rfl⟩
  case queuedFlush =>
    have full : ¬ s.au.depth.get p ≤ (s.au.queue.get p).length := by omega
    have passed : s.arrivalCheck p h.ref none = none := by
      rw [arrivalCheck_inService hb hp, hu]
      exact if_neg full
    rw [exec_flush_of_quiet hq, takeFlush, driveCommand_admitted (hasLength_of_eq hl) ht, admitCommand_queued passed]
    rfl

/-! ### WRITE DATA -/

theorem takeWriteData_found {off : BitVec 32} {bytes : List Byte} {e : Entry} (h11 : 11#16 ≤ h.length)
    (h4106 : h.length ≤ 4106#16) (he : s.writeTarget p h.ref off = some e) :
    takeWriteData p h off bytes s = passData e bytes s := by
  have range : lengthInRange h.length = true := lengthInRange_iff.mpr ⟨by bv_omega, h4106⟩
  have long : ¬ h.length.toNat < 11 := by bv_omega
  rw [takeWriteData, range, he]
  exact (if_neg (by decide)).trans (if_neg long)

theorem takeWriteData_none {off : BitVec 32} {bytes : List Byte} (h11 : 11#16 ≤ h.length) (h4106 : h.length ≤ 4106#16)
    (he : s.writeTarget p h.ref off = none) : takeWriteData p h off bytes s = s := by
  have range : lengthInRange h.length = true := lengthInRange_iff.mpr ⟨by bv_omega, h4106⟩
  have long : ¬ h.length.toNat < 11 := by bv_omega
  rw [takeWriteData, range, he]
  exact (if_neg (by decide)).trans (if_neg long)

theorem passData_eq (e : Entry) (bytes : List Byte) (s : State) : passData e bytes s = { s with dct := { s.dct with
    entries := s.dct.entries.map fun x =>
      if x.tag = e.tag then { x with nextOffset := x.nextOffset + bytes.length } else x
    out := s.dct.out ++ (if bytes.take (byteCount e.range s.blockSize - e.nextOffset) = [] then []
      else [.writeData e.tag e.nextOffset (bytes.take (byteCount e.range s.blockSize - e.nextOffset))]) } } := by
  unfold passData
  dsimp only
  by_cases hk : bytes.take (byteCount e.range s.blockSize - e.nextOffset) = []
  · rw [if_pos hk, List.append_nil]
    refine (if_pos (by simp [hk])).trans ?_
    simp [changeEntry, State.onDct]
  · rw [if_neg hk]
    refine (if_neg (by simpa using hk)).trans ?_
    simp [changeEntry, sendDrive, State.onDct]

/-- Settles O14: the entry that the data names, and how much of the data its command takes. -/
theorem writeDataPassed : Obligations.WriteDataPassed := by
  refine ⟨fun p h off bytes s hq h11 h4106 => ⟨fun e r hm hp ho ht hr hoff one => ?found, fun hn => ?none⟩,
    fun p h off bytes s hq h6 h11 => ?short⟩
  case found =>
    have target : s.writeTarget p h.ref off = some e :=
      find?_of_unique hm (by simp [hp, ho, ht, hoff]) fun d hd hP => by
        simp only [Bool.and_eq_true, beq_iff_eq] at hP
        exact one d hd hP.1.1.1 hP.1.1.2 hP.1.2
    have count : byteCount e.range s.blockSize = r.count.toNat * s.blockSize := by rw [hr]; rfl
    rw [exec_writeData_of_quiet hq, takeWriteData_found h11 h4106 target, passData_eq, count, hoff]
    refine ⟨_, rfl, rfl, rfl, fun hin hne => ?_, fun hlt hcut => ?_, fun hout => ?_⟩
    · have all : bytes.take (r.count.toNat * s.blockSize - off.toNat) = bytes := List.take_of_length_le (by omega)
      rw [all, if_neg hne]
    · refine congrArg _ (if_neg fun hnil => ?_)
      have := congrArg List.length hnil
      simp only [List.length_take, List.length_nil] at this
      omega
    · have zero : r.count.toNat * s.blockSize - off.toNat = 0 := by omega
      rw [zero, List.take_zero, if_pos rfl, List.append_nil]
  case none =>
    have target : s.writeTarget p h.ref off = none := by
      simp only [State.writeTarget, List.find?_eq_none, Bool.and_eq_true, beq_iff_eq]
      rintro x hx ⟨⟨⟨h1, h2⟩, h3⟩, h4⟩
      exact hn x hx h1 h2 h3 h4
    rw [exec_writeData_of_quiet hq, takeWriteData_none h11 h4106 target]
  case short =>
    have range : lengthInRange h.length = true := lengthInRange_iff.mpr ⟨h6, by bv_omega⟩
    rw [exec_writeData_of_quiet hq, takeWriteData, range]
    have few : h.length.toNat < 11 := by bv_omega
    exact congrArg _ ((if_neg (by decide)).trans (if_pos few))

/-! ### The arbiter -/

theorem eligible_iff : s.eligible p = true ↔
    (s.port p = .enrolled ∨ s.port p = .parking) ∧ s.dct.drive = .ready ∧ s.au.queue.get p ≠ [] := by
  simp [State.eligible, and_assoc]

theorem selected_of_one (he : s.eligible p = true) (hn : s.eligible p.peer = false) : s.selected = some p := by
  cases p <;> simp only [Port.peer] at hn <;> rw [State.selected, he, hn]

theorem selected_of_none (ha : s.eligible .a = false) (hb : s.eligible .b = false) : s.selected = none := by
  rw [State.selected, ha, hb]

theorem selected_of_both (ha : s.eligible .a = true) (hb : s.eligible .b = true) : s.selected = some s.au.turn := by
  rw [State.selected, ha, hb]

theorem pressed_iff {a : Au} {x : ShareWindow} (hx : a.window = some x) : a.pressed p = true ↔
    a.granted.get p < x.guar.get p ∧ x.length - a.w ≤ x.guar.get p - a.granted.get p := by
  simp [Au.pressed, hx]

/-- Settles O15: both ports are never under pressure at once, for the guarantees fit the window. -/
theorem arbiterSelects : Obligations.ArbiterSelects := by
  intro s x hx hg hl hw
  refine ⟨fun p => eligible_iff, fun p => selected_of_one, selected_of_none, fun ha hb => ?_⟩
  rw [selected_of_both ha hb]
  refine ⟨fun p hlt hp => ?_, fun hn => ?_⟩
  · have pressed := (pressed_iff (p := p) hx).mpr ⟨hlt, hp⟩
    have calm : p = .b → s.au.pressed .a = false := fun hb => Bool.eq_false_iff.mpr fun hpa => by
      obtain ⟨h1, h2⟩ := (pressed_iff hx).mp hpa
      subst hb
      simp only [PerPort.get] at hlt hp h1 h2
      omega
    cases p with
    | a => rw [Au.turn, if_pos pressed]
    | b => rw [Au.turn, calm rfl, if_neg Bool.false_ne_true, if_pos pressed]
  · have calm (q : Port) : ¬ s.au.pressed q = true := fun h => hn q ((pressed_iff hx).mp h)
    rw [Au.turn, if_neg (calm .a), if_neg (calm .b)]

end Sys2Proof.Machine
end

section
/-! Proofs about the issue of a queue's head (R87 to R91, R94, R105, R106). -/

namespace Sys2Proof.Machine

/- Declarations are elaborated one after another, which keeps the check within its memory. -/
set_option Elab.async false

variable {p : Port} {s : State}

/-! ### The free tag -/

theorem find?_range {n t : Nat} {q : Nat → Bool} (h : (List.range n).find? q = some t) :
    q t = true ∧ t < n ∧ ∀ k < t, q k = false := by
  obtain ⟨hq, i, hi, hit, hlow⟩ := List.find?_eq_some_iff_getElem.mp h
  rw [List.length_range] at hi
  rw [List.getElem_range] at hit
  subst hit
  refine ⟨hq, hi, fun k hk => ?_⟩
  have low := hlow k hk
  rw [List.getElem_range] at low
  simpa using low

theorem tagUsed_iff {d : Dct} {t : Nat} : d.tagUsed t = true ↔ ∃ e ∈ d.entries, e.tag = t := by
  simp [Dct.tagUsed]

theorem tagUsed_eq_false_iff {d : Dct} {t : Nat} : d.tagUsed t = false ↔ ∀ e ∈ d.entries, e.tag ≠ t := by
  simp [Dct.tagUsed]

/-- R87, R92, R96: the free tag is the lowest one, and at depth 1 no bridge command waits. -/
theorem freeTag_lowest {d : Dct} {t : Nat} (h : d.freeTag = some t) :
    (∀ e ∈ d.entries, e.tag ≠ t) ∧ (∀ k < t, ∃ e ∈ d.entries, e.tag = k) ∧
      (2 ≤ d.depth → t + 1 < d.depth) ∧ (d.depth = 1 → t = 0 ∧ d.bridgeWait = none) := by
  unfold Dct.freeTag at h
  split at h
  · exact absurd h (by simp)
  · next open_ =>
    have noWait : d.depth = 1 → d.bridgeWait = none := fun h1 => by simpa [h1] using open_
    by_cases one : d.depth = 1
    · rw [Dct.serverTags, if_pos one] at h
      have zero : t = 0 := by simpa using List.mem_of_find?_eq_some h
      have free : d.tagUsed t = false := by simpa using List.find?_some h
      refine ⟨tagUsed_eq_false_iff.mp free, fun k hk => ?_, fun h2 => ?_, fun h1 => ⟨zero, noWait h1⟩⟩ <;> omega
    · rw [Dct.serverTags, if_neg one] at h
      obtain ⟨free, lt, low⟩ := find?_range h
      refine ⟨tagUsed_eq_false_iff.mp (by simpa using free), fun k hk => tagUsed_iff.mp (by simpa using low k hk),
        fun h2 => by omega, fun h1 => absurd h1 one⟩

/-! ### The issue check -/

theorem comingTo_iff {e : Extent} : e.comingTo p = true ↔ ∃ m, e.mark = some m ∧ m.dest = some p := by
  cases hm : e.mark <;> simp [Extent.comingTo, hm]

theorem leavingFor_iff {e : Extent} : e.leavingFor p = true ↔ ∃ m, e.mark = some m ∧ m.dest ≠ some p := by
  cases hm : e.mark <;> simp [Extent.leavingFor, hm]

theorem anyComing_iff {es : List Extent} : (es.any (·.comingTo p)) = true ↔
    ∃ e ∈ es, ∃ m, e.mark = some m ∧ m.dest = some p := by
  simp only [List.any_eq_true, comingTo_iff]

theorem allHeld_iff {es : List Extent} : (es.all fun e => e.owner == some p && !e.leavingFor p) = true ↔
    ∀ e ∈ es, e.owner = some p ∧ ∀ m, e.mark = some m → m.dest = some p := by
  simp only [List.all_eq_true, Bool.and_eq_true, beq_iff_eq, Bool.not_eq_true', ← Bool.not_eq_true, leavingFor_iff]
  simp

section WriteCheck

variable {emap ec : Epoch} {es : List Extent}

theorem writeCheck_future (h : emap < ec) : writeCheck emap p ec es = some .invalid := if_pos h

theorem writeCheck_coming (h : ec ≤ emap) (hc : ∃ e ∈ es, ∃ m, e.mark = some m ∧ m.dest = some p) :
    writeCheck emap p ec es = some .retry := by
  rw [writeCheck, if_neg (BitVec.not_lt.mpr h), if_pos (anyComing_iff.mpr hc)]

theorem writeCheck_notOwner (h : ec ≤ emap) (hc : ∀ e ∈ es, ∀ m, e.mark = some m → m.dest ≠ some p)
    (hn : ∃ e ∈ es, e.owner ≠ some p ∨ e.mark ≠ none) : writeCheck emap p ec es = some .notOwner := by
  have coming : ¬ (es.any (·.comingTo p)) = true := fun h => by
    obtain ⟨e, he, m, hm, hd⟩ := anyComing_iff.mp h
    exact hc e he m hm hd
  have held : (es.all fun e => e.owner == some p && !e.leavingFor p) = false := Bool.eq_false_iff.mpr fun h => by
    obtain ⟨e, he, ho | hm⟩ := hn
    · exact ho (allHeld_iff.mp h e he).1
    · obtain ⟨m, hm⟩ := Option.ne_none_iff_exists'.mp hm
      exact hc e he m hm ((allHeld_iff.mp h e he).2 m hm)
  rw [writeCheck, if_neg (BitVec.not_lt.mpr h), if_neg coming, held]
  rfl

theorem writeCheck_held (h : ec ≤ emap) (hn : ∀ e ∈ es, e.owner = some p ∧ e.mark = none) :
    writeCheck emap p ec es = if es.any (fun e => ec < e.epoch) then some .staleEpoch else none := by
  have coming : ¬ (es.any (·.comingTo p)) = true := fun h => by
    obtain ⟨e, he, m, hm, -⟩ := anyComing_iff.mp h
    exact absurd hm (by simp [(hn e he).2])
  have held : (es.all fun e => e.owner == some p && !e.leavingFor p) = true :=
    allHeld_iff.mpr fun e he => ⟨(hn e he).1, fun m hm => absurd hm (by simp [(hn e he).2])⟩
  rw [writeCheck, if_neg (BitVec.not_lt.mpr h), if_neg coming, held]
  rfl

theorem readCheck_coming (h : ∃ e ∈ es, e.policy = .owner ∧ ∃ m, e.mark = some m ∧ m.dest = some p) :
    readCheck p es = some .retry := by
  refine if_pos ?_
  simp only [List.any_eq_true, Bool.and_eq_true, beq_iff_eq, comingTo_iff]
  exact h

theorem readCheck_settled (h : ∀ e ∈ es, e.policy = .owner → ∀ m, e.mark = some m → m.dest ≠ some p) :
    readCheck p es = if es.all (fun e => e.policy != .owner || (e.owner == some p && e.mark.isNone)) then none
      else some .notOwner := by
  have coming : ¬ (es.any fun e => e.policy == .owner && e.comingTo p) = true := by
    simp only [List.any_eq_true, Bool.and_eq_true, beq_iff_eq, comingTo_iff]
    rintro ⟨e, he, ho, m, hm, hd⟩
    exact h e he ho m hm hd
  rw [readCheck, if_neg coming]
  cases es.all fun e => e.policy != .owner || (e.owner == some p && e.mark.isNone) <;> rfl

theorem allReadable_iff : (es.all fun e => e.policy != .owner || (e.owner == some p && e.mark.isNone)) = true ↔
    ∀ e ∈ es, e.policy = .owner → e.owner = some p ∧ e.mark = none := by
  simp only [List.all_eq_true, Bool.or_eq_true, bne_iff_ne, Bool.and_eq_true, beq_iff_eq, Option.isNone_iff_eq_none]
  exact forall_congr' fun e => forall_congr' fun _ => by grind

end WriteCheck

theorem issueCheck_write {q : QueueRecord} {r : Range} (ho : q.op = .write) (hr : q.range = some r) :
    s.issueCheck p q = writeCheck s.oc.emap p q.epoch ((s.oc.extents.drop r.f).take (r.g + 1 - r.f)) := by
  rw [State.issueCheck, ho, hr]
  rfl

theorem issueCheck_read {q : QueueRecord} {r : Range} (ho : q.op = .read) (hr : q.range = some r) :
    s.issueCheck p q = readCheck p ((s.oc.extents.drop r.f).take (r.g + 1 - r.f)) := by
  rw [State.issueCheck, ho, hr]
  rfl

theorem issueCheck_flush {q : QueueRecord} (ho : q.op = .flush) : s.issueCheck p q = none := by
  rw [State.issueCheck, ho]

/-! ### A decision -/

theorem exec_arbiterDecision {tag : Nat} {q : QueueRecord} {rest : List QueueRecord} (hq : Quiet s)
    (hs : s.selected = some p) (ht : s.dct.freeTag = some tag) (hh : s.au.queue.get p = q :: rest) :
    exec .arbiterDecision s = .next (grantHead p tag q s) := by
  have arm : exec .arbiterDecision s = .next (arbiterDecides (settle s)) := rfl
  rw [arm, settle_of_quiet hq, arbiterDecides, ht, hs]
  dsimp only
  rw [hh]

theorem dropHead_eq {q : QueueRecord} {rest : List QueueRecord} (hh : s.au.queue.get p = q :: rest) :
    dropHead p s = { s with au := { s.au with queue := s.au.queue.set p rest } } := by
  rw [dropHead, State.onAu, hh]
  rfl

/-- R94, R105, R106: the table, the drive and the grant of a head that is issued. -/
theorem grantHead_issued {tag : Nat} {q : QueueRecord} {rest : List QueueRecord} (hh : s.au.queue.get p = q :: rest)
    (hc : s.issueCheck p q = none) : grantHead p tag q s = { s with
      plu := (transferReady p q s).plu
      oc := (countWrite q s).oc
      au := { s.au with queue := s.au.queue.set p rest, w := s.au.w + 1,
                        granted := s.au.granted.set p (s.au.granted.get p + 1), last := p }
      dct := { s.dct with
        entries := s.dct.entries ++
          [⟨tag, .server p, q.tag, q.op, q.range, q.epoch, s.dct.issueCount, 0, some s.cfg.tCmd, none, none⟩]
        issueCount := s.dct.issueCount + 1
        out := s.dct.out ++ [.command tag q.op (q.range.map fun r => (r.lba.toNat, r.count.toNat))] } } := by
  rw [grantHead, hc, dropHead_eq hh]
  unfold issueServer countWrite transferReady
  cases q.op <;> cases q.range <;> rfl

theorem raiseInflight_oc {r : Range} : (raiseInflight r s).oc = { s.oc with
    extents := s.oc.extents.mapIdx fun x e =>
      if r.f ≤ x ∧ x ≤ r.g then { e with inflight := e.inflight + 1 } else e } := by
  simp [raiseInflight, mapExtents, Range.covers, State.onOc]

/-- Settles O16: the tag, the grant, and the tests of the issue check in their order. -/
theorem headGranted : Obligations.HeadGranted := by
  refine ⟨fun s p tag q rest hq hs ht hh hc => ⟨freeTag_lowest ht, ?issued⟩, ⟨fun s p q r es hr hes => ⟨fun ho => ?write,
    fun ho => ?read⟩, fun s p q ho => issueCheck_flush ho, fun s p tag q rest st hq hs ht hh hc => ?refused⟩⟩
  case issued =>
    rw [exec_arbiterDecision hq hs ht hh, grantHead_issued hh hc]
    refine ⟨_, rfl, rfl, rfl, rfl, fun ho => ?_, fun r ho hr => ⟨?_, ?_⟩⟩
    · unfold transferReady countWrite
      cases hop : q.op with
      | write => exact absurd hop ho
      | read => exact ⟨rfl, rfl⟩
      | flush => exact ⟨rfl, rfl⟩
    · simp only [transferReady, ho, hr]
      rfl
    · simp only [countWrite, ho, hr]
      exact raiseInflight_oc
  case write =>
    rw [issueCheck_write ho hr, ← hes]
    refine ⟨writeCheck_future, writeCheck_coming, writeCheck_notOwner, fun held hle => ⟨fun hst => ?_, fun hst => ?_⟩⟩
    · rw [writeCheck_held hle held, if_pos (by simpa using hst)]
    · rw [writeCheck_held hle held, if_neg (by simpa using hst)]
  case read =>
    rw [issueCheck_read ho hr, ← hes]
    refine ⟨readCheck_coming, fun hm hn => ?_, fun hn => ?_⟩
    · rw [readCheck_settled hm, if_neg]
      rintro h
      obtain ⟨e, he, hp, hno⟩ := hn
      obtain ⟨owner, mark⟩ := allReadable_iff.mp h e he hp
      exact hno.elim (fun h => h owner) fun h => h mark
    · rw [readCheck_settled fun e he hp m hm => absurd hm (by simp [(hn e he hp).2]), if_pos (allReadable_iff.mpr hn)]
  case refused =>
    rw [exec_arbiterDecision hq hs ht hh, grantHead, hc, dropHead_eq hh]

end Sys2Proof.Machine
end

section
/-! Proofs about WRITE CONFIG and CLEAR MAP (R55, R81, R133, R185, R187). -/

namespace Sys2Proof.Machine

/- Declarations are elaborated one after another, which keeps the check within its memory. -/
set_option Elab.async false

variable {p : Port} {seq : Byte} {s : State}

/-! ### CLEAR MAP -/

theorem exec_clearMap_of_quiet (hq : Quiet s) : exec (.clearMap seq) s = .next (takeClearMap seq s) := by
  have arm : exec (.clearMap seq) s = .next (takeClearMap seq (settle s)) := rfl
  rw [arm, settle_of_quiet hq]

theorem inService_iff {st : PortState} :
    st.inService = true ↔ st = .enrolled ∨ st = .suspect ∨ st = .held ∨ st = .parking := by
  cases st <;> simp [PortState.inService]

theorem clearRefused_iff : s.clearRefused = true ↔
    (∃ p : Port, s.port p = .enrolled ∨ s.port p = .suspect ∨ s.port p = .held ∨ s.port p = .parking ∨
      (s.tc.records.get p).stage ≠ .closed) ∨ s.oc.claims ≠ [] := by
  have ports (P : Port → Prop) : (∃ p, P p) ↔ P .a ∨ P .b :=
    ⟨fun
      | ⟨.a, hp⟩ => .inl hp
      | ⟨.b, hp⟩ => .inr hp, fun h => h.elim (⟨_, ·⟩) (⟨_, ·⟩)⟩
  rw [ports]
  simp only [State.clearRefused, Takeover.isOpen, Bool.or_eq_true, inService_iff, bne_iff_ne, Bool.not_eq_true',
    List.isEmpty_eq_false_iff]
  grind

/-- Settles O43, by the tests of CLEAR MAP in their order. -/
theorem clearMapServed : Obligations.ClearMapServed := by
  intro seq s hq hi
  rw [exec_clearMap_of_quiet hq, takeClearMap, whenIdle_idle hi]
  refine ⟨fun h => ?_, fun hb hx => ⟨fun h => ?_, fun hp hc => ?_⟩⟩
  · have absent : (s.ic.bridge == .starting || s.extentCount == 0) = true := by
      rcases h with h | h <;> simp [h, State.extentCount]
    rw [if_pos absent]
    rfl
  all_goals
    have present : ¬ (s.ic.bridge == .starting || s.extentCount == 0) = true := by simp [hb, State.extentCount, hx]
    rw [if_neg present]
  · rw [if_pos (clearRefused_iff.mpr h)]
    rfl
  · have accepted : ¬ s.clearRefused = true := fun h => by
      rcases clearRefused_iff.mp h with ⟨p, h⟩ | h
      · obtain ⟨h1, h2, h3, h4, h5⟩ := hp p
        exact h.elim h1 fun h => h.elim h2 fun h => h.elim h3 fun h => h.elim h4 fun h => h h5
      · exact h hc
    rw [if_neg accepted]
    rfl

/-! ### WRITE CONFIG -/

theorem exec_writeConfig_of_quiet {r : RawConfig} (hq : Quiet s) :
    exec (.writeConfig seq r) s = .next (takeWriteConfig seq r s) := by
  have arm : exec (.writeConfig seq r) s = .next (takeWriteConfig seq r (settle s)) := rfl
  rw [arm, settle_of_quiet hq]

theorem geometryFree_eq_false_iff : s.geometryFree = false ↔
    (∃ e ∈ s.oc.extents, e.owner ≠ none ∨ e.mark ≠ none) ∨ s.oc.steps ≠ [] ∨ s.oc.claims ≠ [] := by
  have table : (s.oc.extents.all fun e => e.owner == none && e.mark == none) = false ↔
      ∃ e ∈ s.oc.extents, e.owner ≠ none ∨ e.mark ≠ none := by
    rw [← Bool.not_eq_true, List.all_eq_true]
    simp only [Bool.and_eq_true, beq_iff_eq, Classical.not_forall, Classical.not_and_iff_not_or_not, exists_prop]
  rw [State.geometryFree, Bool.and_eq_false_iff, Bool.and_eq_false_iff, table]
  simp [or_assoc]

theorem geometryHeld_iff {k : Nat} : s.geometryHeld k = true ↔ k ≠ s.mi.settings.kReq ∧ s.oc.extents ≠ [] ∧
    ((∃ e ∈ s.oc.extents, e.owner ≠ none ∨ e.mark ≠ none) ∨ s.oc.steps ≠ [] ∨ s.oc.claims ≠ []) := by
  rw [← geometryFree_eq_false_iff]
  simp [State.geometryHeld, State.extentCount, State.cfg, and_assoc]

theorem takeDepthIfDue_eq (p : Port) (s : State) : takeDepthIfDue p s = s.onAu fun a => { a with
    depth := a.depth.set p (if a.depth.get p ≠ 0 ∧ (a.queue.get p).length ≤ s.cfg.depth then s.cfg.depth
      else a.depth.get p) } := by
  unfold takeDepthIfDue
  by_cases same : s.au.depth.get p = s.cfg.depth
  · have notDue : ¬ s.depthDue p = true := by simp [State.depthDue, same]
    rw [if_neg notDue, State.onAu, same, ite_self, ← same, PerPort.set_get]
  · by_cases due : s.au.depth.get p ≠ 0 ∧ (s.au.queue.get p).length ≤ s.cfg.depth
    · rw [if_pos (by simp [State.depthDue, same, due]), takeDepth, State.onAu, State.onAu, if_pos due]
    · have notDue : ¬ s.depthDue p = true := by
        simp only [State.depthDue, Bool.and_eq_true, bne_iff_ne, decide_eq_true_eq]
        exact fun h => due ⟨h.1.1, h.2⟩
      rw [if_neg notDue, State.onAu, if_neg due, PerPort.set_get]

/-- R55, R185: the record that replaces the working record. -/
def Settings.heldBack (x : Settings) (held : Bool) (k : Nat) : Settings := if held then { x with kReq := k } else x

theorem applySettings_kept {x : Settings} (h : s.rebuildDue x.kReq = false) : applySettings x s =
    s.onMi fun m => { m with settings := x.heldBack (s.geometryHeld x.kReq) s.cfg.kReq } := by
  rw [applySettings, h]
  rfl

theorem applySettings_rebuilt {x : Settings} (h : s.rebuildDue x.kReq = true) : applySettings x s =
    (rebuild x.kReq s).onMi fun m => { m with settings := x.heldBack (s.geometryHeld x.kReq) s.cfg.kReq } := by
  rw [applySettings, h]
  rfl

theorem clampedConfig_mask : Event.clampedConfig.mask = 128#16 := rfl

theorem rebuild_eq (k : Nat) (s : State) : rebuild k s = { s with
    oc := { s.oc with
      shift := shiftOf s.oc.visible k
      extents := List.replicate (extentsOf s.oc.visible (shiftOf s.oc.visible k)) ⟨none, .shared, s.oc.emap, 0, none, none⟩ }
    au := { s.au with queue := ⟨s.au.queue.a.map (·.respan (shiftOf s.oc.visible k)),
                                s.au.queue.b.map (·.respan (shiftOf s.oc.visible k))⟩ }
    mi := { s.mi with events := if k < shiftOf s.oc.visible k then s.mi.events ||| 128#16 else s.mi.events } } := by
  simp [rebuild, respanQueues, buildTable, raiseClamped, raiseIf_eq, clampedConfig_mask, freshTable, State.onMi, State.onOc,
    State.onAu]

/-- The state that a WRITE CONFIG leaves before the ports are judged. -/
def State.configured (s : State) (seq : Byte) (r : RawConfig) : State :=
  takeDepthIfDue .b (takeDepthIfDue .a (takeTicket
    (.config (rawClamped r) (s.geometryHeld (settingsOfRaw r).kReq)) (applySettings (settingsOfRaw r) (beginRequest seq 0x04 s))))

theorem acceptConfig_eq (seq : Byte) (r : RawConfig) (s : State) : acceptConfig seq r s =
    if (s.configured seq r).cfg.autoTakeover != s.cfg.autoTakeover then judgeBoth (s.configured seq r)
    else s.configured seq r := rfl

end Sys2Proof.Machine
end

section
/-! Proofs about the acceptance of a WRITE CONFIG (R185). -/

namespace Sys2Proof.Machine

/- Declarations are elaborated one after another, which keeps the check within its memory. -/
set_option Elab.async false

variable {p : Port} {seq : Byte} {s : State} {x : Settings} {r : RawConfig}

theorem rebuildDue_iff {k : Nat} : s.rebuildDue k = true ↔
    k ≠ s.mi.settings.kReq ∧ s.geometryHeld k = false ∧ s.oc.extents ≠ [] := by
  cases h : s.geometryFree <;> simp [State.rebuildDue, State.geometryHeld, State.extentCount, State.cfg, h] <;> grind

/-- R81: the depth of a port's queue once the settings have taken effect. -/
def State.depthTaken (s : State) (p : Port) : Nat :=
  if s.au.depth.get p ≠ 0 ∧ (s.au.queue.get p).length ≤ s.cfg.depth then s.cfg.depth else s.au.depth.get p

theorem depthsTaken_eq (s : State) : takeDepthIfDue .b (takeDepthIfDue .a s) = { s with
    au := { s.au with depth := ⟨s.depthTaken .a, s.depthTaken .b⟩ } } := by
  rw [takeDepthIfDue_eq, takeDepthIfDue_eq]
  rfl

/-- The ticket of a WRITE CONFIG. -/
def State.configTicket (s : State) (r : RawConfig) : Taker :=
  .config (rawClamped r) (s.geometryHeld (settingsOfRaw r).kReq)

/-- R185: the working record after a WRITE CONFIG. -/
def State.newSettings (s : State) (r : RawConfig) : Settings :=
  (settingsOfRaw r).heldBack (s.geometryHeld (settingsOfRaw r).kReq) s.cfg.kReq

theorem configured_kept (h : s.rebuildDue (settingsOfRaw r).kReq = false) : s.configured seq r = { s with
    mi := { s.mi with answer := ⟨seq, 4#8, .pending, noMiFlags, []⟩, settings := s.newSettings r }
    ic := s.ic.takeTicket (s.configTicket r)
    au := { s.au with depth := (s.configured seq r).au.depth } } := by
  have due : (beginRequest seq 0x04 s).rebuildDue (settingsOfRaw r).kReq = false := h
  rw [State.configured, depthsTaken_eq, applySettings_kept due]
  rfl

theorem configured_rebuilt (h : s.rebuildDue (settingsOfRaw r).kReq = true) : s.configured seq r = { s with
    oc := (rebuild (settingsOfRaw r).kReq s).oc
    mi := { (rebuild (settingsOfRaw r).kReq s).mi with
      answer := ⟨seq, 4#8, .pending, noMiFlags, []⟩, settings := s.newSettings r }
    ic := s.ic.takeTicket (s.configTicket r)
    au := { s.au with queue := (rebuild (settingsOfRaw r).kReq s).au.queue, depth := (s.configured seq r).au.depth } } := by
  have due : (beginRequest seq 0x04 s).rebuildDue (settingsOfRaw r).kReq = true := h
  rw [State.configured, depthsTaken_eq, applySettings_rebuilt due, rebuild_eq, rebuild_eq]
  rfl

theorem heldBack_depth (x : Settings) (held : Bool) (k : Nat) : (x.heldBack held k).depth = x.depth := by
  unfold Settings.heldBack
  split <;> rfl

theorem heldBack_autoTakeover (x : Settings) (held : Bool) (k : Nat) :
    (x.heldBack held k).autoTakeover = x.autoTakeover := by
  unfold Settings.heldBack
  split <;> rfl

theorem depthTaken_of {t : State} {n : Nat} (hd : t.au.depth = s.au.depth)
    (hl : (t.au.queue.get p).length = (s.au.queue.get p).length) (hn : t.cfg.depth = n) : t.depthTaken p =
    if s.au.depth.get p ≠ 0 ∧ (s.au.queue.get p).length ≤ n then n else s.au.depth.get p := by
  rw [State.depthTaken, hd, hl, hn]

/-- The rebuilt queues hold as many records as before, so the depths are taken alike in both cases. -/
theorem configured_depth (p : Port) : (s.configured seq r).au.depth.get p =
    if s.au.depth.get p ≠ 0 ∧ (s.au.queue.get p).length ≤ (settingsOfRaw r).depth then (settingsOfRaw r).depth
    else s.au.depth.get p := by
  have depths : (s.configured seq r).au.depth.get p =
      (applySettings (settingsOfRaw r) (beginRequest seq 0x04 s)).depthTaken p := by
    rw [State.configured, depthsTaken_eq]
    cases p <;> rfl
  rw [depths]
  cases due : (beginRequest seq 0x04 s).rebuildDue (settingsOfRaw r).kReq with
  | false =>
    rw [applySettings_kept due]
    exact depthTaken_of rfl rfl (heldBack_depth ..)
  | true =>
    rw [applySettings_rebuilt due, rebuild_eq]
    refine depthTaken_of rfl ?_ (heldBack_depth ..)
    cases p <;> exact List.length_map ..

theorem configured_autoTakeover :
    (s.configured seq r).cfg.autoTakeover = (settingsOfRaw r).autoTakeover := by
  cases due : s.rebuildDue (settingsOfRaw r).kReq with
  | false =>
    rw [configured_kept due]
    exact heldBack_autoTakeover ..
  | true =>
    rw [configured_rebuilt due]
    exact heldBack_autoTakeover ..

theorem acceptConfig_judged (seq : Byte) (r : RawConfig) (s : State) : acceptConfig seq r s =
    if (settingsOfRaw r).autoTakeover = s.mi.settings.autoTakeover then s.configured seq r
    else judge .b (judge .a (s.configured seq r)) := by
  rw [acceptConfig_eq, configured_autoTakeover, State.cfg]
  by_cases same : (settingsOfRaw r).autoTakeover = s.mi.settings.autoTakeover <;> simp [same, judgeBoth]

theorem configured_ic : (s.configured seq r).ic = s.ic.takeTicket (s.configTicket r) := by
  cases due : s.rebuildDue (settingsOfRaw r).kReq with
  | false => rw [configured_kept due]
  | true => rw [configured_rebuilt due]

theorem configured_frame : s.configured seq r = { s with
    oc := (s.configured seq r).oc
    au := { s.au with queue := (s.configured seq r).au.queue, depth := (s.configured seq r).au.depth }
    ic := (s.configured seq r).ic
    mi := (s.configured seq r).mi } := by
  cases due : s.rebuildDue (settingsOfRaw r).kReq with
  | false =>
    rw [configured_kept due]
  | true =>
    rw [configured_rebuilt due]

theorem configured_mi : (s.configured seq r).mi.settings = s.newSettings r ∧
    (s.configured seq r).mi.answer = ⟨seq, 4#8, .pending, noMiFlags, []⟩ := by
  cases due : s.rebuildDue (settingsOfRaw r).kReq with
  | false =>
    rw [configured_kept due]
    exact ⟨rfl, rfl⟩
  | true =>
    rw [configured_rebuilt due]
    exact ⟨rfl, rfl⟩

/-- Settles O42: the record is judged, the table is kept or rebuilt, the ticket is taken, and the depths follow. -/
theorem configReplaced : Obligations.ConfigReplaced := by
  intro seq r s x held hq hi hx hheld
  subst hx hheld
  rw [exec_writeConfig_of_quiet hq, takeWriteConfig, whenIdle_idle hi]
  refine ⟨geometryHeld_iff, fun h => ?_, fun h => ?_⟩
  · have starting : (s.ic.bridge == .starting) = true := beq_iff_eq.mpr h
    rw [if_pos starting]
    rfl
  have running : ¬ (s.ic.bridge == .starting) = true := fun e => h (beq_iff_eq.mp e)
  rw [if_neg running, acceptConfig_judged]
  refine ⟨s.configured seq r, rfl, configured_frame, configured_mi.1, configured_mi.2, configured_depth,
    fun hk => ?kept, fun hk hh hx => ?rebuilt, fun hb => ?halted, fun hb hc => ?idle, fun hb hc => ?busy⟩
  case kept =>
    have due : s.rebuildDue (settingsOfRaw r).kReq = false := by
      rw [← Bool.not_eq_true, rebuildDue_iff]
      rintro ⟨changed, free, table⟩
      rcases hk with hk | hk | hk
      · exact changed hk
      · simp [hk] at free
      · exact table hk
    rw [configured_kept due]
    exact ⟨rfl, rfl, rfl⟩
  case rebuilt =>
    rw [configured_rebuilt (rebuildDue_iff.mpr ⟨hk, hh, hx⟩), rebuild_eq]
    exact ⟨rfl, fun p => by cases p <;> rfl, rfl⟩
  case halted => exact configured_ic.trans (Ic.takeTicket_halted hb)
  case idle => exact configured_ic.trans (Ic.takeTicket_idle hb hc)
  case busy => exact configured_ic.trans (Ic.takeTicket_busy hb hc)

end Sys2Proof.Machine
end

section
/-! The entry to HALTED as one change of each block (R75, R85, R123, R174, R180). -/

namespace Sys2Proof.Machine

/- Declarations are elaborated one after another, which keeps the check within its memory. -/
set_option Elab.async false

variable {p : Port} {s : State}

/-! ### The queues -/

theorem emptyQueues_eq (s : State) : emptyQueue .b (emptyQueue .a s) = { s with
    au := { s.au with queue := ⟨[], []⟩ }
    plu := ⟨s.plu.a.answerAll .notReady s.au.queue.a, s.plu.b.answerAll .notReady s.au.queue.b⟩ } := by
  simp only [emptyQueue, answerRecords_eq]
  rfl

/-! ### The claims -/

/-- The claims that a halt refuses: those that ask or wait. -/
def refusedIds (cs : List Claim) : List Byte := (cs.filter fun c => c.state ≠ .transferring).map (·.id)

theorem mem_refusedIds {cs : List Claim} {id : Byte} :
    id ∈ refusedIds cs ↔ ∃ c ∈ cs, c.state ≠ .transferring ∧ c.id = id := by
  simp [refusedIds, and_assoc]

/-- The table once the claims of some ids are closed. -/
def Oc.closed (ids : List Byte) (o : Oc) : Oc :=
  { o with claims := o.claims.filter fun c => c.id ∉ ids
           extents := o.extents.map fun e => if ∃ id ∈ ids, e.claim = some id then { e with claim := none } else e }

theorem Oc.closed_nil (o : Oc) : o.closed [] = o := by
  have claims : (o.claims.filter fun c => c.id ∉ ([] : List Byte)) = o.claims :=
    List.filter_eq_self.mpr fun _ _ => by simp
  rw [Oc.closed, claims]
  simp

theorem closedExtents_cons (id : Byte) (ids : List Byte) (es : List Extent) :
    ((es.map fun e => if e.claim = some id then { e with claim := none } else e).map fun e =>
      if ∃ i ∈ ids, e.claim = some i then { e with claim := none } else e) =
    es.map fun e => if ∃ i ∈ id :: ids, e.claim = some i then { e with claim := none } else e := by
  rw [List.map_map]
  refine List.map_congr_left fun e _ => ?_
  by_cases here : e.claim = some id
  · simp [here]
  · simp [here]

theorem Oc.closed_cons (id : Byte) (ids : List Byte) (o : Oc) : o.closed (id :: ids) = Oc.closed ids { o with
    claims := o.claims.filter fun c => c.id ≠ id
    extents := o.extents.map fun e => if e.claim = some id then { e with claim := none } else e } := by
  rw [Oc.closed, Oc.closed, List.filter_filter, closedExtents_cons]
  simp [Bool.and_comm]

/-- R75: the link of a claimant that hands over one REFUSED for each of its refused claims. -/
def Plu.refuseAll (p : Port) (emap : Epoch) (cs : List Claim) (u : Plu) : Plu :=
  (cs.filter fun c => c.claimant = p ∧ c.state ≠ .transferring).foldl
    (fun u c => u.handOver (.answer c.ref noFlags .refused (.claim c.id emap))) u

theorem refuseAll_kept {c : Claim} (h : ¬ (c.claimant = p ∧ c.state ≠ .transferring)) (emap : Epoch) (cs : List Claim) (u : Plu) :
    u.refuseAll p emap (c :: cs) = u.refuseAll p emap cs := by
  rw [Plu.refuseAll, List.filter_cons_of_neg (by simpa using h)]
  rfl

theorem refuseAll_refused {c : Claim} (h : c.state ≠ .transferring) (emap : Epoch) (cs : List Claim) (u : Plu) :
    u.refuseAll c.claimant emap (c :: cs) =
      (u.handOver (.answer c.ref noFlags .refused (.claim c.id emap))).refuseAll c.claimant emap cs := by
  rw [Plu.refuseAll, List.filter_cons_of_pos (by simpa using h)]
  rfl

@[simp] theorem refuseAll_align (emap : Epoch) (cs : List Claim) (u : Plu) : (u.refuseAll p emap cs).align = u.align :=
  foldl_keeps (fun v : Plu => v.align = u.align) _ (fun v _ h => (handOver_align _ v).trans h) _ u rfl

theorem refuseClaims_eq (cs : List Claim) (s : State) : cs.foldl refuseAtHalt s = { s with
    plu := ⟨s.plu.a.refuseAll .a s.oc.emap cs, s.plu.b.refuseAll .b s.oc.emap cs⟩
    oc := s.oc.closed (refusedIds cs) } := by
  induction cs generalizing s with
  | nil => rw [refusedIds, List.filter_nil, List.map_nil, Oc.closed_nil]; rfl
  | cons c cs ih =>
    rw [List.foldl_cons, ih]
    by_cases stays : c.state = .transferring
    · have kept : refuseAtHalt s c = s := by simp [refuseAtHalt, stays]
      have ids : refusedIds (c :: cs) = refusedIds cs := by simp [refusedIds, stays]
      have same (q : Port) : ¬ (c.claimant = q ∧ c.state ≠ .transferring) := fun h => h.2 stays
      rw [kept, ids, refuseAll_kept (same .a), refuseAll_kept (same .b)]
    · have refused : refuseAtHalt s c = endClaim c .refused noFlags s := by simp [refuseAtHalt, stays]
      have ids : refusedIds (c :: cs) = c.id :: refusedIds cs := by simp [refusedIds, stays]
      rw [refused, endClaim_eq, ids, Oc.closed_cons]
      cases claimant : c.claimant with
      | a =>
        rw [refuseAll_kept (p := .b) (by simp [claimant]), ← claimant, refuseAll_refused stays, claimant]
        rfl
      | b =>
        rw [refuseAll_kept (p := .a) (by simp [claimant]), ← claimant, refuseAll_refused stays, claimant]
        rfl

/-! ### The ports -/

/-- R123: the supervisor of a port when STARTING ends. -/
def State.leftStarting (s : State) (p : Port) : Supervisor :=
  if s.port p = .offline ∧ (s.plu.get p).align ≠ .down then { s.sup.get p with state := .linked } else s.sup.get p

theorem leaveStarting_eq (p : Port) (s : State) : leaveStarting p s = { s with sup := s.sup.set p (s.leftStarting p) } := by
  unfold leaveStarting State.leftStarting
  by_cases due : s.port p = .offline ∧ (s.plu.get p).align ≠ .down
  · rw [if_pos (by simp [due, linkUp_iff]), if_pos due]
    rfl
  · rw [if_neg (by simpa [linkUp_iff] using due), if_neg due, PerPort.set_get]

theorem portsLeaveStarting_eq (s : State) :
    portsLeaveStarting s = { s with sup := ⟨s.leftStarting .a, s.leftStarting .b⟩ } := by
  rw [portsLeaveStarting, leaveStarting_eq, leaveStarting_eq]
  rfl

theorem leftStarting_state (s : State) (p : Port) : (s.leftStarting p).state =
    if s.port p = .offline ∧ (s.plu.get p).align ≠ .down then .linked else s.port p := by
  unfold State.leftStarting
  split <;> rfl

/-! ### HALTED -/

/-- R174: the image controller once its cycle is abandoned at a halt. -/
def Ic.halted (c : Ic) : Ic :=
  { c with bridge := .halted, served := c.served ++ c.tickets.map (fun t => ⟨t.taker, false⟩), tickets := [], dirty := false,
           attempt := 0, cycle := .idle, beginDue := false }

/-- R85, R75: the link of a port at a halt: the answers of its queue, then those of its claims. -/
def State.haltedLink (s : State) (p : Port) : Plu :=
  ((s.plu.get p).answerAll .notReady (s.au.queue.get p)).refuseAll p s.oc.emap s.oc.claims

theorem enterHalted_eq (s : State) : enterHalted s = { s with
    plu := ⟨s.haltedLink .a, s.haltedLink .b⟩
    sup := ⟨s.leftStarting .a, s.leftStarting .b⟩
    oc := s.oc.closed (refusedIds s.oc.claims)
    au := { s.au with queue := ⟨[], []⟩ }
    dct := { s.dct with bridgeWait := none }
    ic := s.ic.halted } := by
  rw [enterHalted, emptyQueues_eq, refuseClaims_eq, portsLeaveStarting_eq]
  simp only [State.leftStarting, State.port, abandonCycle, State.onIc, State.onDct, PerPort.get, refuseAll_align,
    answerAll_align]
  rfl

theorem driveLost_written (s : State) : driveLost s = { s with
    plu := ⟨s.haltedLink .a, s.haltedLink .b⟩
    sup := ⟨s.leftStarting .a, s.leftStarting .b⟩
    oc := s.oc.closed (refusedIds s.oc.claims)
    au := { s.au with queue := ⟨[], []⟩ }
    dct := { s.dct with drive := .lost, attachTimer := none, retryTimer := none, reattachTimer := none, bridgeWait := none }
    ic := s.ic.halted
    mi := { s.mi with events := s.mi.events ||| 32#16 } } := by
  rw [driveLost, enterHalted_eq]
  rfl

end Sys2Proof.Machine
end

section
/-! Proofs about attach and re-attach attempts (R100, R101, R102, R115, R120). -/

namespace Sys2Proof.Machine

/- Declarations are elaborated one after another, which keeps the check within its memory. -/
set_option Elab.async false

variable {s : State}

/-! ### DV_PRSN and the attach timers -/

theorem exec_dvPrsnLow_of_quiet (hq : Quiet s) : exec .dvPrsnLow s = .next (prsnGoesLow s) := by
  have arm : exec .dvPrsnLow s = .next (prsnGoesLow (settle s)) := rfl
  rw [arm, settle_of_quiet hq]

theorem exec_dvPrsnHigh_of_quiet (hq : Quiet s) : exec .dvPrsnHigh s = .next (prsnGoesHigh s) := by
  have arm : exec .dvPrsnHigh s = .next (prsnGoesHigh (settle s)) := rfl
  rw [arm, settle_of_quiet hq]

theorem prsnGoesLow_attempt (hd : s.dct.drive = .absent) (hl : s.dct.prsnLow = false) (hr : s.dct.retryTimer = none) :
    prsnGoesLow s = { s with dct := { s.dct with
      prsnLow := true, drive := .attaching, attachTimer := some 10, out := s.dct.out ++ [.reset, .identify] } } := by
  have due : (!s.dct.prsnLow && s.dct.drive == .absent && s.dct.retryTimer.isNone) = true := by simp [hd, hl, hr]
  have begun : prsnGoesLow s = attachAttempt (s.onDct fun d => { d with prsnLow := true }) := if_pos due
  have timer : s.dct = { s.dct with retryTimer := none } := by rw [← hr]
  rw [begun, timer]
  rfl

theorem prsnGoesLow_noted
    (h : s.dct.drive ≠ .absent ∨ s.dct.retryTimer.isSome = true ∨ s.dct.prsnLow = true) :
    prsnGoesLow s = s.onDct fun d => { d with prsnLow := true } := by
  refine if_neg fun due => ?_
  simp only [Bool.and_eq_true, Bool.not_eq_true', beq_iff_eq, Option.isNone_iff_eq_none] at due
  obtain ⟨⟨low, absent⟩, idle⟩ := due
  rcases h with h | h | h
  · exact h absent
  · simp [idle] at h
  · simp [low] at h

theorem prsnGoesHigh_attaching (hd : s.dct.drive = .attaching) (hl : s.dct.prsnLow = true) :
    prsnGoesHigh s = attachEnds none (s.onDct fun d => { d with prsnLow := false }) := by
  simp [prsnGoesHigh, hd, hl, State.onDct]

theorem prsnGoesHigh_noted (ha : s.dct.drive ≠ .attaching) (hr : s.dct.drive ≠ .ready) :
    prsnGoesHigh s = s.onDct fun d => { d with prsnLow := false } := by
  simp [prsnGoesHigh, ha, hr, State.onDct]

theorem exec_attachAnswerTimeExpiry_of_quiet (hq : Quiet s) (hd : s.dct.drive = .attaching)
    (ht : s.dct.attachTimer.isSome = true) : exec .attachAnswerTimeExpiry s = .next (attachEnds (some 1) s) := by
  have arm : exec .attachAnswerTimeExpiry s = .next
      (if (settle s).dct.drive = .attaching && (settle s).dct.attachTimer.isSome then
        attachEnds (some Config.retryTime) (settle s) else settle s) := rfl
  rw [arm, settle_of_quiet hq, if_pos (by simp [hd, ht])]
  rfl

theorem exec_attachRetryTimeExpiry_of_quiet (hq : Quiet s) (hd : s.dct.drive = .absent)
    (ht : s.dct.retryTimer.isSome = true) : exec .attachRetryTimeExpiry s = .next (retryReached s) := by
  have arm : exec .attachRetryTimeExpiry s = .next
      (if (settle s).dct.drive = .absent && (settle s).dct.retryTimer.isSome then retryReached (settle s)
        else settle s) := rfl
  rw [arm, settle_of_quiet hq, if_pos (by simp [hd, ht])]

theorem retryReached_eq (s : State) : retryReached s =
    if s.dct.prsnLow then attachAttempt (s.onDct fun d => { d with retryTimer := none })
    else s.onDct fun d => { d with retryTimer := none } := rfl

/-! ### The identify answer -/

theorem exec_identifyAnswer_of_quiet {c b d : Nat} (hq : Quiet s) : exec (.identifyAnswer c b d) s = .next
    (if s.dct.drive = .attaching then if driveSupported c b d then firstAttach c b d s else driveLost s else s) := by
  have arm : exec (.identifyAnswer c b d) s = .next
      (if (settle s).dct.drive = .attaching then
        if driveSupported c b d then firstAttach c b d (settle s) else driveLost (settle s) else settle s) := rfl
  rw [arm, settle_of_quiet hq]

theorem driveSupported_iff {c b d : Nat} : driveSupported c b d = true ↔
    d ≠ 0 ∧ (b = 512 ∨ b = 4096) ∧ 320 ≤ c ∧ c - 64 ≤ 2 ^ 40 := by
  simp [driveSupported, visibleOf, Config.reservedBlocks, and_assoc]

theorem PerPort.ext_get {α : Type} {x : PerPort α} {u v : α} (ha : x.get .a = u) (hb : x.get .b = v) : x = ⟨u, v⟩ := by
  subst ha hb
  rfl

/-- R101, R120: an unsupported drive halts a STARTING part that holds nothing. -/
theorem driveLost_of_idle (hp : ∀ p : Port, s.au.queue.get p = [] ∧ (s.plu.get p).align = .down)
    (hc : s.oc.claims = []) (ht : s.ic.tickets = []) : driveLost s = { s with
      dct := { s.dct with
        drive := .lost, attachTimer := none, retryTimer := none, reattachTimer := none, bridgeWait := none }
      ic := { s.ic with bridge := .halted, dirty := false, attempt := 0, cycle := .idle, beginDue := false }
      mi := { s.mi with events := s.mi.events ||| 32#16 } } := by
  have queues : s.au.queue = ⟨[], []⟩ := by
    exact PerPort.ext_get (hp .a).1 (hp .b).1
  have links (p : Port) : s.haltedLink p = s.plu.get p := by
    rw [State.haltedLink, (hp p).1, hc]
    rfl
  have sups (p : Port) : s.leftStarting p = s.sup.get p := if_neg fun h => h.2 (hp p).2
  have served : s.ic.halted =
      { s.ic with bridge := .halted, dirty := false, attempt := 0, cycle := .idle, beginDue := false } := by
    simp [Ic.halted, ht]
  have refused : refusedIds s.oc.claims = [] := by rw [hc]; rfl
  rw [driveLost_written, links, links, sups, sups, served, refused, Oc.closed_nil, ← queues]
  rfl

/-- Settles O44, by the tests that each input of an attach attempt makes. -/
theorem attachServed : Obligations.AttachServed := by
  refine ⟨fun s hq => ⟨fun hd hl hr => ?_, fun hd h => ?_, fun hd => ?_, fun hd hr => ⟨fun hl => ?_, fun hl => ?_⟩,
    fun hd ht => ?_, fun hd hl => ?_, fun ha hr => ?_, fun c b d hd => ?_⟩, fun c b d s hq hd =>
    ⟨fun h1 h2 h3 h4 => ?_, fun h hb hp hc ht => ?_⟩⟩
  · rw [exec_dvPrsnLow_of_quiet hq, prsnGoesLow_attempt hd hl hr]
  · rw [exec_dvPrsnLow_of_quiet hq, prsnGoesLow_noted (.inr h)]
    rfl
  · rw [exec_dvPrsnLow_of_quiet hq, prsnGoesLow_noted (.inl hd)]
    rfl
  · rw [exec_attachRetryTimeExpiry_of_quiet hq hd hr, retryReached_eq, if_pos hl]
    rfl
  · rw [exec_attachRetryTimeExpiry_of_quiet hq hd hr, retryReached_eq, if_neg (by simp [hl])]
    rfl
  · exact exec_attachAnswerTimeExpiry_of_quiet hq hd ht
  · rw [exec_dvPrsnHigh_of_quiet hq, prsnGoesHigh_attaching hd hl]
    rfl
  · rw [exec_dvPrsnHigh_of_quiet hq, prsnGoesHigh_noted ha hr]
    rfl
  · rw [exec_identifyAnswer_of_quiet hq, if_neg (by simp [hd])]
  · rw [exec_identifyAnswer_of_quiet hq, if_pos hd, if_pos (driveSupported_iff.mpr ⟨by omega, h2, h3, h4⟩)]
    rfl
  · have unsupported : ¬ driveSupported c b d = true := by
      rw [driveSupported_iff]
      omega
    rw [exec_identifyAnswer_of_quiet hq, if_pos hd, if_neg unsupported, driveLost_of_idle hp hc ht]

/-! ### Re-attach -/

theorem exec_reattachIdentifyAnswer_of_quiet {c b d : Nat} (hq : Quiet s) (hd : s.dct.drive = .resetting)
    (ht : s.dct.reattachTimer.isSome = true) : exec (.reattachIdentifyAnswer c b d) s = .next
      (if s.dct.firstAttach = some (c, b) && d != 0 then reattached d s else driveLost s) := by
  have arm : exec (.reattachIdentifyAnswer c b d) s = .next
      (if (settle s).dct.drive = .resetting && (settle s).dct.reattachTimer.isSome then
        if (settle s).dct.firstAttach = some (c, b) && d != 0 then reattached d (settle s) else driveLost (settle s)
      else settle s) := rfl
  rw [arm, settle_of_quiet hq, if_pos (by simp [hd, ht])]

theorem exec_reattachTimeExpiry_of_quiet (hq : Quiet s) (hd : s.dct.drive = .resetting)
    (ht : s.dct.reattachTimer.isSome = true) : exec .reattachTimeExpiry s = .next
      (if s.dct.reattachNo < 2 then reattachAttempt 2 s else driveLost s) := by
  have arm : exec .reattachTimeExpiry s = .next
      (if (settle s).dct.drive = .resetting && (settle s).dct.reattachTimer.isSome then
        if (settle s).dct.reattachNo < 2 then reattachAttempt 2 (settle s) else driveLost (settle s)
      else settle s) := rfl
  rw [arm, settle_of_quiet hq, if_pos (by simp [hd, ht])]

theorem closed_claims_transferring {x : Claim} (h : x ∈ (s.oc.closed (refusedIds s.oc.claims)).claims) :
    x.state = .transferring := by
  obtain ⟨member, open_⟩ := List.mem_filter.mp h
  refine Classical.byContradiction fun asks => ?_
  exact (by simpa using open_ : x.id ∉ refusedIds s.oc.claims) (mem_refusedIds.mpr ⟨x, member, asks, rfl⟩)

theorem closed_extents_kept {ids : List Byte} {o : Oc} :
    (o.closed ids).extents.map (fun e => (e.owner, e.policy, e.epoch, e.mark)) =
      o.extents.map fun e => (e.owner, e.policy, e.epoch, e.mark) := by
  rw [Oc.closed, List.map_map]
  refine List.map_congr_left fun e _ => ?_
  simp only [Function.comp_apply]
  split <;> rfl

/-- Members of a list whose images are distinct are told apart by their images. -/
theorem eq_of_nodup_map {α β : Type} {f : α → β} {l : List α} (h : (l.map f).Nodup) {x y : α} (hx : x ∈ l) (hy : y ∈ l)
    (same : f x = f y) : x = y := by
  induction l with
  | nil => exact nomatch hx
  | cons z l ih =>
    obtain ⟨fresh, rest⟩ := List.nodup_cons.mp h
    rcases List.mem_cons.mp hx with rfl | hx' <;> rcases List.mem_cons.mp hy with rfl | hy'
    · rfl
    · exact absurd (same ▸ List.mem_map_of_mem hy') fresh
    · exact absurd (same ▸ List.mem_map_of_mem hx') fresh
    · exact ih rest hx' hy'

/-- With distinct ids the refused claims are exactly those that do not transfer. -/
theorem closed_of_nodup (h : (s.oc.claims.map fun x => x.id).Nodup) :
    s.oc.closed (refusedIds s.oc.claims) = { s.oc with
      claims := s.oc.claims.filter fun x => x.state = .transferring
      extents := s.oc.extents.map fun e =>
        if ∃ x ∈ s.oc.claims, x.state ≠ .transferring ∧ e.claim = some x.id then { e with claim := none } else e } := by
  have stays : ∀ x ∈ s.oc.claims, (x.id ∉ refusedIds s.oc.claims ↔ x.state = .transferring) := fun x hx => by
    rw [mem_refusedIds]
    refine ⟨fun alone => Classical.byContradiction fun asks => alone ⟨x, hx, asks, rfl⟩, ?_⟩
    rintro moves ⟨c, hc, asks, same⟩
    exact asks (eq_of_nodup_map h hc hx same ▸ moves)
  have claims : (s.oc.claims.filter fun c => c.id ∉ refusedIds s.oc.claims) =
      s.oc.claims.filter fun x => x.state = .transferring :=
    List.filter_congr fun x hx => by simp only [stays x hx]
  have named (e : Extent) : (∃ id ∈ refusedIds s.oc.claims, e.claim = some id) ↔
      ∃ x ∈ s.oc.claims, x.state ≠ .transferring ∧ e.claim = some x.id := by
    simp only [mem_refusedIds]
    exact ⟨fun ⟨_, ⟨c, hc, asks, same⟩, he⟩ => ⟨c, hc, asks, same ▸ he⟩,
      fun ⟨c, hc, asks, he⟩ => ⟨_, ⟨c, hc, asks, rfl⟩, he⟩⟩
  rw [Oc.closed, claims]
  simp only [named]

/-- Settles O45: the drive is READY again, tried once more, or given up with the part HALTED. -/
theorem reattachEnds : Obligations.ReattachEnds := by
  refine ⟨fun c b d s hq hd ht => ⟨fun hf h1 => ?_, fun hn => ?_⟩, fun c b d s hq hd ht => ?_⟩
  · rw [exec_reattachIdentifyAnswer_of_quiet hq hd ht, if_pos (by simp [hf]; omega)]
    rfl
  · rw [exec_reattachTimeExpiry_of_quiet hq hd ht, if_pos (by omega)]
    rfl
  · have differs (h : s.dct.firstAttach ≠ some (c, b) ∨ d = 0) :
        exec (.reattachIdentifyAnswer c b d) s = .next (driveLost s) := by
      rw [exec_reattachIdentifyAnswer_of_quiet hq hd ht, if_neg]
      simpa [Classical.or_iff_not_imp_left] using h
    have again (h : s.dct.reattachNo = 2) : exec .reattachTimeExpiry s = .next (driveLost s) := by
      rw [exec_reattachTimeExpiry_of_quiet hq hd ht, if_neg (by omega)]
    have links (p : Port) : (driveLost s).plu.get p = s.haltedLink p := by
      rw [driveLost_written]
      cases p <;> rfl
    have sups (p : Port) : (driveLost s).sup.get p = s.leftStarting p := by
      rw [driveLost_written]
      cases p <;> rfl
    have owners : (driveLost s).oc = s.oc.closed (refusedIds s.oc.claims) := by rw [driveLost_written]
    refine ⟨driveLost s, differs, again, ?drive, ?image, ?events, ?queues,
      fun x hx => closed_claims_transferring (owners ▸ hx), ?epoch, ?ids, ?extents, ?tc, ?window, fun hc p => ?alone, ?frame,
      fun p => ⟨links p, sups p⟩, fun h => owners.trans (closed_of_nodup h)⟩
    case extents => rw [owners, closed_extents_kept]
    case alone =>
      rw [links, State.haltedLink, hc]
      rfl
    all_goals
      rw [driveLost_written] <;> rfl

end Sys2Proof.Machine
end

section
/-! Proofs about the image cycle and the end of bridge commands (R103, R104, R171, R172, R173). -/

namespace Sys2Proof.Machine

/- Declarations are elaborated one after another, which keeps the check within its memory. -/
set_option Elab.async false

variable {s : State} {e : Entry} {status : DriveStatus} {detail : Word}

/-! ### The end of an entry -/

/-- R108: the part once an entry has left the drive command table. -/
def State.withoutEntry (s : State) (tag : Nat) : State :=
  { s with dct := { s.dct with entries := s.dct.entries.filter fun f => f.tag ≠ tag } }

theorem endEntry_eq (e : Entry) (x : Ending) (s : State) :
    endEntry e x s = routeResult e x (uncountWrite e (s.withoutEntry e.tag)) := by
  simp [endEntry, State.withoutEntry, State.onDct, bne, Bool.beq_eq_decide_eq]

theorem exec_driveCompletion_of_quiet (hq : Quiet s) (hf : s.dct.find e.tag = some e) :
    exec (.driveCompletion e.tag status detail) s = .next (endEntry e (.completion status detail) s) := by
  have arm : exec (.driveCompletion e.tag status detail) s = .next
      (match (settle s).dct.find e.tag with
       | some e => endEntry e (.completion status detail) (settle s)
       | none => settle s) := rfl
  rw [arm, settle_of_quiet hq, hf]

theorem exec_abortAnswer_of_quiet {done : Bool} (hq : Quiet s) (hf : s.dct.find e.tag = some e) :
    exec (.abortAnswer e.tag done) s = .next (if done && e.abort.isSome then endEntry e .aborted s else s) := by
  have arm : exec (.abortAnswer e.tag done) s = .next
      (match (settle s).dct.find e.tag with
       | some e => if done && e.abort.isSome then endEntry e .aborted (settle s) else settle s
       | none => settle s) := rfl
  rw [arm, settle_of_quiet hq, hf]

theorem exec_abortAnswer_done (hq : Quiet s) (hf : s.dct.find e.tag = some e) (ha : e.abort.isSome = true) :
    exec (.abortAnswer e.tag true) s = .next (endEntry e .aborted s) := by
  rw [exec_abortAnswer_of_quiet hq hf, if_pos (by simp [ha])]

theorem uncountWrite_of_rangeless (h : e.op ≠ .write ∨ e.range = none) (s : State) : uncountWrite e s = s := by
  unfold uncountWrite
  split
  · next op range => simp [op, range] at h
  · rfl

theorem endEntry_bridge (ho : e.origin = .bridge) (hr : e.op ≠ .write ∨ e.range = none) (x : Ending) (s : State) :
    endEntry e x s = bridgeEnds x.good (s.withoutEntry e.tag) := by
  rw [endEntry_eq, uncountWrite_of_rangeless hr, routeResult, ho]

/-! ### The end of an image command -/

theorem bridgeEnds_started (h : s.ic.bridge ≠ .starting) (good : Bool) : bridgeEnds good s =
    match s.ic.cycle, good with
    | .idle, _ => s
    | .writing, true => writeSucceeds s
    | .flushing, true => cycleSucceeds s
    | _, false => attemptFails s := if_neg h

theorem bridgeEnds_written (h : s.ic.bridge ≠ .starting) (hc : s.ic.cycle = .writing) :
    bridgeEnds true s = writeSucceeds s := by
  rw [bridgeEnds_started h, hc]

theorem bridgeEnds_flushed (h : s.ic.bridge ≠ .starting) (hc : s.ic.cycle = .flushing) :
    bridgeEnds true s = cycleSucceeds s := by
  rw [bridgeEnds_started h, hc]

theorem bridgeEnds_failed (h : s.ic.bridge ≠ .starting) (hc : s.ic.cycle ≠ .idle) :
    bridgeEnds false s = attemptFails s := by
  rw [bridgeEnds_started h]
  cases hk : s.ic.cycle with
  | idle => exact absurd hk hc
  | writing => rfl
  | flushing => rfl

theorem endCycle_eq (durable : Bool) (c : Ic) : c.endCycle durable = { c with
    served := c.served ++ (c.tickets.filter fun k => k.generation = c.generation).map fun k => ⟨k.taker, durable⟩
    tickets := c.tickets.filter fun k => k.generation ≠ c.generation
    attempt := 0, cycle := .idle, beginDue := c.dirty } := by
  simp [Ic.endCycle, bne, Bool.beq_eq_decide_eq]

theorem attemptFails_again (h : s.ic.attempt < 3) : attemptFails s = { s with
    ic := { s.ic with attempt := s.ic.attempt + 1, cycle := .writing }
    dct := { s.dct with bridgeWait := some .imageWrite } } := if_pos h

theorem attemptFails_last (h : ¬ s.ic.attempt < 3) : attemptFails s = { s with
    ic := { s.ic with
      served := s.ic.served ++ (s.ic.tickets.filter fun k => k.generation = s.ic.generation).map fun k => ⟨k.taker, false⟩
      tickets := s.ic.tickets.filter fun k => k.generation ≠ s.ic.generation
      attempt := 0, cycle := .idle, beginDue := s.ic.dirty, imageFault := true }
    mi := { s.mi with events := s.mi.events ||| 64#16 } } := by
  rw [attemptFails, if_neg h, State.onIc, endCycle_eq]
  rfl

/-! ### The issue of a bridge command -/

theorem exec_bridgeCommandIssue : exec .bridgeCommandIssue s =
    .next (match s.dct.bridgeReady with | some c => issueBridge c s | none => s) := rfl

theorem tagUsed_false_iff {d : Dct} {tag : Nat} : d.tagUsed tag = false ↔ ∀ e ∈ d.entries, e.tag ≠ tag := by
  simp [Dct.tagUsed]

theorem bridgeReady_of_free {d : Dct} (hr : d.drive = .ready) (hf : ∀ e ∈ d.entries, e.tag ≠ d.depth - 1) :
    d.bridgeReady = d.bridgeWait := by
  have free : d.tagUsed d.bridgeTag = false := tagUsed_false_iff.mpr hf
  exact if_pos (by simp [hr, free])

theorem bridgeReady_none {d : Dct}
    (h : d.bridgeWait = none ∨ d.drive ≠ .ready ∨ ∃ e ∈ d.entries, e.tag = d.depth - 1) : d.bridgeReady = none := by
  by_cases ready : d.drive = .ready ∧ d.tagUsed d.bridgeTag = false
  · obtain ⟨up, free⟩ := ready
    have unused := tagUsed_false_iff.mp free
    rw [bridgeReady_of_free up unused]
    rcases h with h | h | ⟨e, he, tag⟩
    · exact h
    · exact absurd up h
    · exact absurd tag (unused e he)
  · exact if_neg (by simpa using ready)

/-- Settles O49: the begin of a cycle, the issue of its commands, and their ends one by one. -/
theorem imageCycleRuns : Obligations.ImageCycleRuns := by
  refine ⟨fun s => ⟨fun hb => ?_, fun hb => ?_, fun c hc hr hf => ?_, fun h => ?_⟩,
    fun e status detail s d hq hf ho hop hr hb hd => ?_⟩
  · have begins : exec .imageCycleBegin s = .next (if s.ic.beginDue then beginCycle s else s) := rfl
    rw [begins, if_pos hb]
    rfl
  · have begins : exec .imageCycleBegin s = .next (if s.ic.beginDue then beginCycle s else s) := rfl
    rw [begins, if_neg (by simp [hb])]
  · refine ⟨issueBridge c s, ?_, rfl, rfl, ?_, ?_, ?_⟩
    · rw [exec_bridgeCommandIssue, bridgeReady_of_free hr hf, hc]
    all_goals
      rintro rfl
      rfl
  · rw [exec_bridgeCommandIssue, bridgeReady_none h]
  · have completed : exec (.driveCompletion e.tag status detail) s =
        .next (bridgeEnds (Ending.completion status detail).good d) := by
      rw [exec_driveCompletion_of_quiet hq hf, endEntry_bridge ho (.inr hr), hd]
      rfl
    have failed (hc : s.ic.cycle ≠ .idle) : bridgeEnds false d = attemptFails d :=
      bridgeEnds_failed (by rw [hd]; exact hb) (by rw [hd]; exact hc)
    have aborted (ha : e.abort.isSome = true) : exec (.abortAnswer e.tag true) s = .next (bridgeEnds false d) := by
      rw [exec_abortAnswer_done hq hf ha, endEntry_bridge ho (.inr hr), hd]
      rfl
    have erroneous : exec (.driveCompletion e.tag .error detail) s = .next (bridgeEnds false d) := by
      rw [exec_driveCompletion_of_quiet hq hf, endEntry_bridge ho (.inr hr), hd]
      rfl
    have again (ht : s.ic.attempt < 3) := attemptFails_again (s := d) (by rw [hd]; exact ht)
    have last (ht : s.ic.attempt = 3) := attemptFails_last (s := d) (by rw [hd, ht]; decide)
    refine ⟨fun hs hc => ?_, fun hs hc => ?_, fun hs hc ht => ?_, fun hs hc ht => ?_,
      fun ha hc => ⟨?_, fun ht => ?_, fun ht => ?_⟩⟩
    · rw [completed, hs, Ending.good, bridgeEnds_written (by rw [hd]; exact hb) (by rw [hd]; exact hc), hd]
      rfl
    · rw [completed, hs, Ending.good, bridgeEnds_flushed (by rw [hd]; exact hb) (by rw [hd]; exact hc), cycleSucceeds,
        State.onIc, endCycle_eq, hd]
    · rw [hs, erroneous, failed hc, again ht, hd]
    · rw [hs, erroneous, failed hc, last ht, hd]
    · rw [aborted ha, erroneous]
    · rw [aborted ha, failed hc, again ht, hd]
    · rw [aborted ha, failed hc, last ht, hd]

end Sys2Proof.Machine
end

section
/-! Proofs about the end of the image READ (R168, R176, R177, R178). -/

namespace Sys2Proof.Machine

/- Declarations are elaborated one after another, which keeps the check within its memory. -/
set_option Elab.async false

variable {p : Port} {s : State}

theorem or_ite_or (a m n : Word) (c : Prop) [Decidable c] :
    (if c then a ||| m else a) ||| n = a ||| n ||| if c then m else 0#16 := by
  split
  · rw [BitVec.or_assoc, BitVec.or_assoc, BitVec.or_comm m n]
  · rw [BitVec.or_zero]

theorem ite_or (a m : Word) (c : Prop) [Decidable c] : (if c then a ||| m else a) = a ||| if c then m else 0#16 := by
  split
  · rfl
  · rw [BitVec.or_zero]

/-! ### RECOVERY -/

/-- R178: the table of the default k_req, all NONE. -/
def Oc.blank (o : Oc) : Oc :=
  { o with
    shift := shiftOf o.visible 16
    extents := List.replicate (extentsOf o.visible (shiftOf o.visible 16)) ⟨none, .shared, 0, 0, none, none⟩
    ownerId := ⟨0, 0⟩, emap := 0 }

theorem enterRecovery_eq (s : State) : enterRecovery s = { s with
    sup := ⟨s.leftStarting .a, s.leftStarting .b⟩
    oc := s.oc.blank
    ic := { s.ic with bridge := .recovery, generation := 0 }
    mi := { s.mi with events := s.mi.events ||| 256#16 ||| if 16 < shiftOf s.oc.visible 16 then 128#16 else 0 } } := by
  have mask : Event.recoveryStart.mask = 256#16 := rfl
  have kReq : Settings.default.kReq = 16 := rfl
  simp only [enterRecovery, buildTable, raiseClamped, raiseIf_eq, raise, portsLeaveStarting_eq, State.onOc, State.onMi,
    State.onIc, clampedConfig_mask, mask, kReq, decide_eq_true_eq, or_ite_or]
  rfl

/-! ### The load -/

/-- R177: what a load raises. -/
def Loaded.raised (x : Loaded) (events : Word) : Word :=
  events ||| (if x.clamped = true ∨ x.settings.kReq < x.shift then 128#16 else 0) |||
    (if 4294967294#32 ≤ x.epoch then 1024#16 else 0)

/-- R95: the guarantee that a loaded record gives a port in the first window. -/
def State.firstGuarantee (s : State) (x : Settings) (p : Port) : Nat :=
  if s.port p = .enrolled ∨ s.port p = .parking then x.guar.get p else 0

theorem guaranteeNow_first (s : State) (p : Port) : s.guaranteeNow p = s.firstGuarantee s.cfg p :=
  guaranteeNow_eq s p

theorem or_ite_twice (a m : Word) (c d : Prop) [Decidable c] [Decidable d] :
    (a ||| if c then m else 0#16) ||| (if d then m else 0#16) = a ||| if c ∨ d then m else 0#16 := by
  by_cases hc : c <;> by_cases hd : d <;> simp [hc, hd, BitVec.or_assoc]

theorem loadImage_eq (x : Loaded) (s : State) : loadImage x s = { s with
    sup := ⟨s.leftStarting .a, s.leftStarting .b⟩
    startWindow := some x.settings.tSw
    oc := { s.oc with shift := x.shift, extents := x.extents, ownerId := x.ownerId, emap := satSucc x.epoch }
    au := { s.au with
      depth := ⟨x.settings.depth, x.settings.depth⟩, w := 0, granted := ⟨0, 0⟩
      window := some ⟨x.settings.window, ⟨s.firstGuarantee x.settings .a, s.firstGuarantee x.settings .b⟩⟩ }
    ic := { s.ic with bridge := .service, generation := x.generation }
    mi := { s.mi with settings := x.settings, events := x.raised s.mi.events } } := by
  have last : (satSucc x.epoch == Config.maxEpoch) = decide (4294967294#32 ≤ x.epoch) := by
    rw [Bool.eq_iff_iff, satSucc_eq_max_iff, decide_eq_true_eq]
  simp only [loadImage, raiseClamped, raiseIf_eq, setEpoch, portsLeaveStarting_eq, enterService, startShareWindow,
    guaranteeNow_first, State.onOc, State.onMi, State.onIc, State.onAu, clampedConfig_mask, epochExhausted_mask, last,
    decide_eq_true_eq, Loaded.raised, ite_or, or_ite_twice]
  rfl

end Sys2Proof.Machine
end

section
/-! The fields of an image and the end of its READ (R166, R168, R176). -/

namespace Sys2Proof.Machine

/- Declarations are elaborated one after another, which keeps the check within its memory. -/
set_option Elab.async false

variable {s : State} {e : Entry} {status : DriveStatus} {detail : Word} {img : List Byte}

/-! ### Fields of bytes -/

theorem toNat_ofNat_field (w n off : Nat) (h : 256 ^ n ≤ 2 ^ w) : (BitVec.ofNat w (fieldAt img off n)).toNat = fieldAt img off n := by
  rw [BitVec.toNat_ofNat]
  exact Nat.mod_eq_of_lt (Nat.lt_of_lt_of_le (fieldAt_lt img off n) h)

theorem byteAt_eq_iff {off : Nat} {c : Byte} : byteAt img off = c ↔ fieldAt img off 1 = c.toNat := by
  rw [← BitVec.toNat_inj, byteAt, toNat_ofNat_field 8 1 off (by decide)]

/-! ### A valid image and what it holds -/

theorem imageValid_iff {v : Nat} : imageValid v img = true ↔
    fieldAt img 0 2 = 0x5A3C ∧ fieldAt img 2 2 = 1 ∧ wordSum img % 65536 = 0x7E51 ∧ fieldAt img 16 6 = v ∧
      fieldAt img 12 1 = shiftOf v (settingsOfRaw (storedConfig img)).kReq ∧
      fieldAt img 14 2 = extentsOf v (shiftOf v (settingsOfRaw (storedConfig img)).kReq) ∧
      ∀ i, i < extentsOf v (shiftOf v (settingsOfRaw (storedConfig img)).kReq) →
        fieldAt img (130 + 8 * i) 4 ≤ fieldAt img 8 4 := by
  simp [imageValid, imageSignature, imageSumValue, and_assoc]

theorem extentOfImage_owner (i : Nat) : (extentOfImage img i).owner =
    if fieldAt img (128 + 8 * i) 1 = 1 then some .a else if fieldAt img (128 + 8 * i) 1 = 2 then some .b else none := by
  have code : (extentOfImage img i).owner = portOfCode (byteAt img (128 + 8 * i)) := rfl
  rw [code, portOfCode]
  simp only [byteAt_eq_iff]
  rfl

theorem extentOfImage_policy (i : Nat) : (extentOfImage img i).policy =
    if fieldAt img (129 + 8 * i) 1 = 1 then .owner else .shared := by
  have code : (extentOfImage img i).policy = (policyOfCode (byteAt img (129 + 8 * i))).getD .shared := rfl
  rw [code, policyOfCode]
  simp only [byteAt_eq_iff]
  have zero : (0x00#8 : Byte).toNat = 0 := rfl
  have one : (0x01#8 : Byte).toNat = 1 := rfl
  rw [zero, one]
  by_cases h0 : fieldAt img (129 + 8 * i) 1 = 0
  · rw [if_pos h0, if_neg (by omega)]
    rfl
  · rw [if_neg h0, apply_ite (Option.getD · _)]
    rfl

theorem extent_of_decoded {v i : Nat} {y : Extent} (h : (decodeImage v img).extents[i]? = some y) :
    extentOfImage img i = y := by
  rw [decodeImage, List.getElem?_map, Option.map_eq_some_iff] at h
  obtain ⟨j, hj, rfl⟩ := h
  rw [(List.getElem?_eq_some_iff.mp hj).2.symm, List.getElem_range]

/-! ### The end of the READ -/

theorem endEntry_imageRead (ho : e.origin = .bridge) (hop : e.op = .read) (hb : s.ic.bridge = .starting) (x : Ending) :
    endEntry e x s = imageReadEnds x.good (s.withoutEntry e.tag) := by
  rw [endEntry_bridge ho (.inl (by simp [hop]))]
  exact if_pos hb

theorem imageReadEnds_loaded (h : imageValid s.oc.visible (imageRead s.ic.readBuf) = true) :
    imageReadEnds true s = loadImage (decodeImage s.oc.visible (imageRead s.ic.readBuf)) s :=
  if_pos (by simpa using h)

theorem imageReadEnds_recovery {good : Bool}
    (h : good = false ∨ imageValid s.oc.visible (imageRead s.ic.readBuf) = false) :
    imageReadEnds good s = enterRecovery s :=
  if_neg (by rcases h with h | h <;> simp [h])

theorem mask_kept (a m n : Word) : (a ||| m ||| n) &&& m = m := by
  ext i
  simp only [BitVec.getElem_and, BitVec.getElem_or]
  cases a[i] <;> cases m[i] <;> cases n[i] <;> rfl

/-- The ports leave STARTING alike after a load and after an entry to RECOVERY. -/
theorem imageReadEnds_frame (good : Bool) (s : State) : ∃ startWindow oc au ic mi, imageReadEnds good s = { s with
    sup := ⟨s.leftStarting .a, s.leftStarting .b⟩
    startWindow := startWindow, oc := oc, au := au, ic := ic, mi := mi } := by
  by_cases loads : good = true ∧ imageValid s.oc.visible (imageRead s.ic.readBuf) = true
  · rw [loads.1, imageReadEnds_loaded loads.2, loadImage_eq]
    exact ⟨_, _, _, _, _, rfl⟩
  · rw [imageReadEnds_recovery (by
      rwa [Classical.not_and_iff_not_or_not, Bool.not_eq_true, Bool.not_eq_true] at loads), enterRecovery_eq]
    exact ⟨_, _, _, _, _, rfl⟩

theorem completed_good (status : DriveStatus) (detail : Word) :
    (Ending.completion status detail).good = decide (status = .good) := by
  cases status <;> rfl

/-- Settles O50: the end of the READ, the tests of an image, and the fields that it decodes to. -/
theorem imageReadServed : Obligations.ImageReadEnds := by
  refine ⟨fun e status detail s x hq hf ho hop hb hx => ?_, fun v kReq n img hk hn => ?_, fun v img x hx => ?_⟩
  · have ends : exec (.driveCompletion e.tag status detail) s =
        .next (imageReadEnds (decide (status = .good)) (s.withoutEntry e.tag)) := by
      rw [exec_driveCompletion_of_quiet hq hf, endEntry_imageRead ho hop hb, completed_good]
    obtain ⟨startWindow, oc, au, ic, mi, frame⟩ :=
      imageReadEnds_frame (decide (status = .good)) (s.withoutEntry e.tag)
    have loads (hs : status = .good) (hv : imageValid s.oc.visible (imageRead s.ic.readBuf) = true) :
        imageReadEnds (decide (status = .good)) (s.withoutEntry e.tag) = loadImage x (s.withoutEntry e.tag) := by
      rw [hs, hx]
      exact imageReadEnds_loaded hv
    have recovers (h : status = .error ∨ imageValid s.oc.visible (imageRead s.ic.readBuf) = false) :
        imageReadEnds (decide (status = .good)) (s.withoutEntry e.tag) = enterRecovery (s.withoutEntry e.tag) :=
      imageReadEnds_recovery (h.imp_left fun h => by rw [h]; rfl)
    refine ⟨_, ends, fun hs ha => ?aborted, ?dct, ?frame, fun p => ?ports, fun hs hv => ?loaded, fun h => ?recovery,
      fun hs hv => ?window, fun h => ?raised⟩
    case aborted =>
      rw [exec_abortAnswer_done hq hf ha, endEntry_imageRead ho hop hb, hs]
      rfl
    case dct => rw [frame] <;> rfl
    case frame => rw [frame] <;> rfl
    case ports =>
      rw [frame]
      cases p <;> exact leftStarting_state ..
    case loaded =>
      rw [loads hs hv, loadImage_eq]
      exact ⟨rfl, rfl, rfl, rfl, rfl, rfl, rfl, _, rfl, rfl⟩
    case recovery =>
      rw [recovers h, enterRecovery_eq]
      exact ⟨rfl, rfl, rfl, mask_kept .., rfl, rfl⟩
    case window =>
      rw [loads hs hv, loadImage_eq]
      exact ⟨⟨_, rfl, fun p => by cases p <;> rfl⟩, rfl⟩
    case raised =>
      rw [recovers h, enterRecovery_eq]
      rfl
  · subst hk hn
    exact imageValid_iff
  · subst hx
    refine ⟨rfl, rfl, rfl, ?_, ?_, ?_, ?_, ?_, fun i y hy => ?_⟩
    · simp [decodeImage]
    · exact toNat_ofNat_field 32 4 4 (by decide)
    · exact toNat_ofNat_field 32 4 8 (by decide)
    · exact toNat_ofNat_field 16 2 22 (by decide)
    · exact toNat_ofNat_field 16 2 24 (by decide)
    · obtain rfl := extent_of_decoded hy
      exact ⟨extentOfImage_owner i, extentOfImage_policy i, toNat_ofNat_field 32 4 _ (by decide), rfl, rfl, rfl⟩

end Sys2Proof.Machine
end

section
/-! Proofs about the end of a server command's entry (R26, R27, R108, R109, R112, R118). -/

namespace Sys2Proof.Machine

/- Declarations are elaborated one after another, which keeps the check within its memory. -/
set_option Elab.async false

variable {p : Port} {s : State} {e : Entry} {x : Ending}

/-! ### The counts of a WRITE -/

/-- R109: the extents once a WRITE's entry has left. -/
def Entry.lowered (e : Entry) (es : List Extent) : List Extent :=
  match e.op, e.range with
  | .write, some r => es.mapIdx fun x y => if r.f ≤ x ∧ x ≤ r.g then { y with inflight := y.inflight - 1 } else y
  | _, _ => es

theorem uncountWrite_eq (e : Entry) (s : State) : uncountWrite e s = { s with oc := { s.oc with extents := e.lowered s.oc.extents } } := by
  unfold uncountWrite Entry.lowered
  cases e.range with
  | none => cases e.op <;> rfl
  | some r =>
    cases e.op with
    | write => simp [lowerInflight, State.onOc, mapExtents, Range.covers]
    | read => rfl
    | flush => rfl

theorem lowered_of_not_write (h : e.op ≠ .write) (es : List Extent) : e.lowered es = es := by
  unfold Entry.lowered
  split
  · next op _ => exact absurd op h
  · rfl

theorem lowered_of_write {r : Range} (h : e.op = .write) (hr : e.range = some r) (es : List Extent) :
    e.lowered es = es.mapIdx fun x y => if r.f ≤ x ∧ x ≤ r.g then { y with inflight := y.inflight - 1 } else y := by
  rw [Entry.lowered, h, hr]

/-! ### Where the result goes -/

/-- R158: the intent list with the outcome of one WRITE entered. -/
def Tc.withOutcome (t : Tc) (setId : Word) (seq : BitVec 64) (o : IntentOutcome) : Tc :=
  { t with intents := t.intents.map fun x => if x.setId == setId then { x with entries := x.entries.map (·.take seq o) } else x }

theorem takeOutcome_eq (setId : Word) (seq : BitVec 64) (o : IntentOutcome) (s : State) :
    takeOutcome setId seq o s = { s with tc := s.tc.withOutcome setId seq o } := rfl

theorem sending_iff {u : Plu} {seq : BitVec 64} :
    u.sending seq = true ↔ ∃ tag off bs, DataMsg.readData seq tag off bs ∈ u.dataList := by
  rw [Plu.sending, List.any_eq_true]
  constructor
  · rintro ⟨m, member, named⟩
    cases m with
    | readData n tag off bs =>
      have same : n = seq := by simpa using named
      exact ⟨tag, off, bs, same ▸ member⟩
    | transferReady => simp at named
  · rintro ⟨tag, off, bs, member⟩
    exact ⟨_, member, by simp⟩

theorem sending_eq_false {u : Plu} {seq : BitVec 64} (h : ∀ m ∈ u.dataList, ∀ tag off bs, m ≠ .readData seq tag off bs) :
    u.sending seq = false := by
  rw [← Bool.not_eq_true, sending_iff]
  rintro ⟨tag, off, bs, member⟩
  exact h _ member tag off bs rfl

theorem completeEntry_handOver (h : e.op = .read → (s.plu.get p).sending e.seq = false) :
    completeEntry p e x s = handOver p (.completion e.serverTag x.status x.detail) s := by
  refine if_neg ?_
  rw [Bool.and_eq_true, decide_eq_true_eq]
  rintro ⟨read, sends⟩
  simp [h read] at sends

theorem completeEntry_waits (hr : e.op = .read) (h : (s.plu.get p).sending e.seq = true) :
    completeEntry p e x s = s.onPlu p fun u =>
      { u with readDone := u.readDone ++ [⟨e.seq, x.holdsTag, e.serverTag, x.status, x.detail⟩] } :=
  if_pos (by simp [hr, h])

theorem routeResult_unwatched (ho : e.origin = .server p) (hw : e.watched = none) :
    routeResult e x s = completeEntry p e x s := by
  rw [routeResult, ho, hw]

theorem routeResult_watchedWrite {id : Word} (ho : e.origin = .server p) (hw : e.watched = some id) (hop : e.op = .write) :
    routeResult e x s = takeOutcome id e.seq x.outcome s := by
  rw [routeResult, ho, hw, hop]

theorem routeResult_watchedOther {id : Word} (ho : e.origin = .server p) (hw : e.watched = some id) (hop : e.op ≠ .write) :
    routeResult e x s = s := by
  rw [routeResult, ho, hw]
  cases h : e.op with
  | write => exact absurd h hop
  | read => rfl
  | flush => rfl

/-! ### The end of a server command -/

/-- The part without the entry, its WRITE no longer counted. -/
def State.entryGone (s : State) (e : Entry) : State :=
  { s with oc := { s.oc with extents := e.lowered s.oc.extents }
           dct := { s.dct with entries := s.dct.entries.filter fun f => f.tag ≠ e.tag } }

theorem endEntry_gone (e : Entry) (x : Ending) (s : State) : endEntry e x s = routeResult e x (s.entryGone e) := by
  rw [endEntry_eq, uncountWrite_eq]
  rfl

theorem endEntry_answered (ho : e.origin = .server p) (hw : e.watched = none)
    (hs : e.op = .read → (s.plu.get p).sending e.seq = false) : endEntry e x s = { s.entryGone e with
      plu := s.plu.set p ((s.plu.get p).handOver (.completion e.serverTag x.status x.detail)) } := by
  rw [endEntry_gone, routeResult_unwatched ho hw, completeEntry_handOver (s := s.entryGone e) hs]
  rfl

theorem endEntry_watchedWrite {id : Word} (ho : e.origin = .server p) (hw : e.watched = some id) (hop : e.op = .write) :
    endEntry e x s = { s.entryGone e with tc := (takeOutcome id e.seq x.outcome s).tc } := by
  rw [endEntry_gone, routeResult_watchedWrite ho hw hop]
  rfl

theorem endEntry_watchedOther {id : Word} (ho : e.origin = .server p) (hw : e.watched = some id) (hop : e.op ≠ .write) :
    endEntry e x s = s.entryGone e := by
  rw [endEntry_gone, routeResult_watchedOther ho hw hop]

theorem endEntry_waits (ho : e.origin = .server p) (hw : e.watched = none) (hop : e.op = .read)
    (hs : (s.plu.get p).sending e.seq = true) : endEntry e x s = { s with
      plu := s.plu.set p { s.plu.get p with
        readDone := (s.plu.get p).readDone ++ [⟨e.seq, x.holdsTag, e.serverTag, x.status, x.detail⟩] }
      dct := { s.dct with entries := s.dct.entries.filter fun f => f.tag ≠ e.tag } } := by
  have counts : s.entryGone e = s.withoutEntry e.tag := by
    rw [State.entryGone, lowered_of_not_write (by simp [hop])]
    rfl
  rw [endEntry_gone, counts, routeResult_unwatched ho hw, completeEntry_waits (s := s.withoutEntry e.tag) hop hs]
  rfl

/-- What any end of a server command leaves, when no READ DATA of it is still to be sent. -/
theorem endEntry_frame (ho : e.origin = .server p) (hs : e.op = .read → (s.plu.get p).sending e.seq = false) (x : Ending) :
    endEntry e x s = { s.entryGone e with plu := (endEntry e x s).plu, tc := (endEntry e x s).tc } ∧
      (e.watched = none → (endEntry e x s).tc = s.tc) ∧ (e.watched ≠ none → (endEntry e x s).plu = s.plu) ∧
      (e.watched ≠ none → e.op ≠ .write → (endEntry e x s).tc = s.tc) := by
  cases hw : e.watched with
  | none =>
    rw [endEntry_answered ho hw hs]
    exact ⟨rfl, fun _ => rfl, fun h => absurd rfl h, fun h => absurd rfl h⟩
  | some id =>
    by_cases hop : e.op = .write
    · rw [endEntry_watchedWrite ho hw hop]
      exact ⟨rfl, fun h => by simp at h, fun _ => rfl, fun _ h => absurd hop h⟩
    · rw [endEntry_watchedOther ho hw hop]
      exact ⟨rfl, fun _ => rfl, fun _ => rfl, fun _ _ => rfl⟩

/-! ### The COMPLETION of a READ whose READ DATA is sent -/

theorem beginMessage_started {u : Plu} {t : Turn} {k : Nat} (h : u.tx = some (t, k)) : u.beginMessage = u := by
  unfold Plu.beginMessage
  rw [h]

/-- One data message, begun or not, goes on being sent when nothing is queued. -/
theorem beginMessage_dataAt {u : Plu} {k : Nat} (hd : u.dataList ≠ []) (hq : u.outQueue = [])
    (ht : u.tx = none ∧ k = 0 ∨ u.tx = some (.data, k)) : u.beginMessage = { u with tx := some (.data, k) } := by
  rcases ht with ⟨idle, rfl⟩ | begun
  · exact beginMessage_data idle hd hq
  · rw [beginMessage_started begun, ← begun]

theorem fillFrame_dataEnds {n room k : Nat} {u : Plu} {m : DataMsg} (hd : u.dataList = [m]) (hq : u.outQueue = [])
    (ht : u.tx = none ∧ k = 0 ∨ u.tx = some (.data, k)) (hr : 0 < room) (hm : m.bytes.length ≤ k + room) :
    ∃ start, fillFrame (n + 1) room none [] u = ({ u with dataList := [], tx := none }, start, m.bytes.drop k) := by
  have begun := beginMessage_dataAt (by simp [hd]) hq ht
  have bytes : ({ u with tx := some (.data, k) } : Plu).headBytes .data = m.bytes := by simp [Plu.headBytes, hd]
  have left : ({ u with tx := some (.data, k) } : Plu).dropHead .data = { u with dataList := [], tx := none } := by
    simp [Plu.dropHead, hd]
  have fits : (m.bytes.drop k).length ≤ room := by
    rw [List.length_drop]
    omega
  unfold fillFrame
  rw [if_neg (by omega)]
  simp only [begun, bytes, left, fits, if_true, List.nil_append]
  exact ⟨_, fillFrame_idle rfl rfl hq⟩

theorem fillFrame_dataGoesOn {n room k : Nat} {u : Plu} {m : DataMsg} (hd : u.dataList = [m]) (hq : u.outQueue = [])
    (ht : u.tx = none ∧ k = 0 ∨ u.tx = some (.data, k)) (hr : 0 < room) (hm : k + room < m.bytes.length) :
    ∃ start, fillFrame (n + 1) room none [] u =
      ({ u with tx := some (.data, k + room) }, start, (m.bytes.drop k).take room) := by
  have begun := beginMessage_dataAt (by simp [hd]) hq ht
  have bytes : ({ u with tx := some (.data, k) } : Plu).headBytes .data = m.bytes := by simp [Plu.headBytes, hd]
  have long : ¬ (m.bytes.drop k).length ≤ room := by
    rw [List.length_drop]
    omega
  unfold fillFrame
  rw [if_neg (by omega)]
  simp only [begun, bytes, long, if_false, List.nil_append]
  exact ⟨_, rfl⟩

theorem handReads_sent {u : Plu} {r : ReadDone} (hd : u.dataList = []) (hq : u.outQueue = []) (hr : u.readDone = [r]) :
    u.handReads = { u with readDone := [], outQueue := [.completion r.tag r.status r.detail] } := by
  have done (seq : BitVec 64) : u.sending seq = false := by simp [Plu.sending, hd]
  simp [Plu.handReads, hr, done, Plu.handOver, hq, Config.outQueueMax]

theorem handReads_sending {u : Plu} {r : ReadDone} (hs : u.sending r.seq = true) (hr : u.readDone = [r]) :
    u.handReads = u := by
  have kept : (u.readDone.filter fun r => u.sending r.seq) = u.readDone := by simp [hr, hs]
  have none_due : (u.readDone.filter fun r => !u.sending r.seq) = [] := by simp [hr, hs]
  rw [Plu.handReads, kept, none_due]
  rfl

theorem sampleBlock_eq (view : State) (p : Port) (u : Plu) :
    sampleBlock view p u = { u with txBlock := (sampleBlock view p u).txBlock } := by
  unfold sampleBlock
  split <;> rfl

/-- The last byte of the READ DATA is placed, and the COMPLETION is handed over behind it. -/
theorem afterSend_dataEnds {view : State} {fillAt k : Nat} {u : Plu} {m : DataMsg} {r : ReadDone} (hd : u.dataList = [m])
    (hq : u.outQueue = []) (hr : u.readDone = [r]) (ht : u.tx = none ∧ k = 0 ∨ u.tx = some (.data, k))
    (hm : m.bytes.length ≤ k + 1024) : ∃ f, (u.afterSend view p fillAt).lastFrame = some f ∧ f.payload = m.bytes.drop k ∧
      (u.afterSend view p fillAt).dataList = [] ∧ (u.afterSend view p fillAt).readDone = [] ∧
      (u.afterSend view p fillAt).outQueue = [.completion r.tag r.status r.detail] := by
  rw [Plu.afterSend, sampleBlock_eq]
  obtain ⟨start, fill⟩ := fillFrame_dataEnds (n := 1023) (room := 1024)
    (u := { u with txBlock := (sampleBlock view p u).txBlock }) hd hq ht (by decide) hm
  rw [Plu.sendFrame, Config.payloadBytes, fill, handReads_sent (r := r)]
  · exact ⟨_, rfl, rfl, rfl, rfl, rfl⟩
  · rfl
  · exact hq
  · exact hr

/-- READ DATA that does not end in the frame keeps its COMPLETION waiting. -/
theorem afterSend_dataGoesOn {view : State} {fillAt k : Nat} {u : Plu} {m : DataMsg} {r : ReadDone} (hd : u.dataList = [m])
    (hq : u.outQueue = []) (hr : u.readDone = [r]) (hs : u.sending r.seq = true)
    (ht : u.tx = none ∧ k = 0 ∨ u.tx = some (.data, k)) (hm : k + 1024 < m.bytes.length) :
    ∃ f, (u.afterSend view p fillAt).lastFrame = some f ∧ f.payload = (m.bytes.drop k).take 1024 ∧
      (u.afterSend view p fillAt).dataList = [m] ∧ (u.afterSend view p fillAt).readDone = [r] ∧
      (u.afterSend view p fillAt).outQueue = [] := by
  rw [Plu.afterSend, sampleBlock_eq]
  obtain ⟨start, fill⟩ := fillFrame_dataGoesOn (n := 1023) (room := 1024)
    (u := { u with txBlock := (sampleBlock view p u).txBlock }) hd hq ht (by decide) hm
  rw [Plu.sendFrame, Config.payloadBytes, fill, handReads_sending (r := r)]
  · exact ⟨_, rfl, rfl, hd, hr, hq⟩
  · exact hs
  · exact hr

theorem completed_status (status : DriveStatus) (detail : Word) : (Ending.completion status detail).status =
    match status with | .good => .good | .error => .driveError := by
  cases status <;> rfl

theorem completed_detail (status : DriveStatus) (detail : Word) : (Ending.completion status detail).detail =
    match status with | .good => 0 | .error => detail := by
  cases status <;> rfl

theorem completed_outcome (status : DriveStatus) (detail : Word) : (Ending.completion status detail).outcome =
    match status with | .good => .completed | .error => .failed detail := by
  cases status <;> rfl

theorem completed_holdsTag (status : DriveStatus) (detail : Word) : (Ending.completion status detail).holdsTag = true :=
  rfl

theorem tagInUse_of_readDone {t : State} {r : ReadDone} (h : r ∈ (t.plu.get p).readDone) (hr : r.holdsTag = true) :
    t.tagInUse p r.tag = true := by
  have waits : ((t.plu.get p).readDone.any fun x => x.holdsTag && x.tag == r.tag) = true :=
    List.any_eq_true.mpr ⟨r, h, by simp [hr]⟩
  rw [State.tagInUse, waits, Bool.or_true]

/-- R26, R27: the tag of a READ stays in use while its COMPLETION waits. -/
theorem tagInUse_of_waits (ho : e.origin = .server p) (hw : e.watched = none) (hop : e.op = .read)
    (hs : (s.plu.get p).sending e.seq = true) (hx : x.holdsTag = true) :
    (endEntry e x s).tagInUse p e.serverTag = true := by
  rw [endEntry_waits ho hw hop hs]
  exact tagInUse_of_readDone (r := ⟨e.seq, x.holdsTag, e.serverTag, x.status, x.detail⟩) (by simp) hx

/-- Settles O46: the result goes by origin and watched field, and a READ's COMPLETION follows its READ DATA. -/
theorem entryEnds : Obligations.EntryEnds := by
  refine ⟨fun e status detail s p hq hf ho hr => ?_, fun e status detail s p hq hf ho hop hw hr => ?_,
    fun p s m seq tag off bs r k hq hm hd hqueue hrd ht => ?_⟩
  · have idle (h : e.op = .read) : (s.plu.get p).sending e.seq = false := sending_eq_false (hr h)
    refine ⟨_, _, exec_driveCompletion_of_quiet hq hf, exec_abortAnswer_done hq hf, fun v hv => ?_, fun hw => ?_,
      fun id hw hop => ?_⟩
    · obtain ⟨x, rfl⟩ : ∃ x, v = endEntry e x s := hv.elim (fun h => ⟨_, h⟩) fun h => ⟨_, h⟩
      obtain ⟨frame, kept, links, tables⟩ := endEntry_frame ho idle x
      have extents : (endEntry e x s).oc = { s.oc with extents := e.lowered s.oc.extents } := by rw [frame]; rfl
      have dct : (endEntry e x s).dct = (s.entryGone e).dct := by rw [frame]
      refine ⟨?_, fun r hop hrange => ?_, fun hop => ?_, kept, links, tables⟩
      · rw [extents]
        exact frame
      · rw [extents, lowered_of_write hop hrange]
      · rw [extents, lowered_of_not_write hop]
    · rw [endEntry_answered ho hw idle, endEntry_answered ho hw idle, completed_status, completed_detail]
      exact ⟨rfl, rfl⟩
    · rw [endEntry_watchedWrite ho hw hop, endEntry_watchedWrite ho hw hop, completed_outcome]
      exact ⟨rfl, rfl⟩
  · have sends : (s.plu.get p).sending e.seq = true := sending_iff.mpr hr
    refine ⟨_, _, exec_driveCompletion_of_quiet hq hf, exec_abortAnswer_done hq hf, ?_, ?_, ?_, ?_⟩
    · rw [endEntry_waits ho hw hop sends, completed_holdsTag, completed_status, completed_detail] <;> rfl
    · exact endEntry_waits ho hw hop sends
    · exact tagInUse_of_waits ho hw hop sends rfl
    · exact tagInUse_of_waits ho hw hop sends rfl
  · obtain ⟨fillAt, sent, -⟩ := sendFrames_port s p
    rw [exec_frameSend_of_quiet hq]
    by_cases fits : m.bytes.length ≤ k + 1024
    · obtain ⟨f, last, payload, data, waiting, queue⟩ := afterSend_dataEnds (view := s) (fillAt := fillAt) (p := p) hd hqueue hrd ht fits
      refine ⟨_, f, rfl, sent ▸ last, fun _ => ?_, fun h => by omega⟩
      rw [sent]
      exact ⟨payload, data, waiting, queue⟩
    · by_cases same : r.seq = seq
      · have sends : (s.plu.get p).sending r.seq = true := sending_iff.mpr ⟨tag, off, bs, by rw [hd, same, hm]; exact List.mem_singleton_self _⟩
        obtain ⟨f, last, payload, data, waiting, queue⟩ :=
          afterSend_dataGoesOn (view := s) (fillAt := fillAt) (p := p) hd hqueue hrd sends ht (by omega)
        refine ⟨_, f, rfl, sent ▸ last, fun h => absurd h fits, fun _ _ => ?_⟩
        rw [sent]
        exact ⟨payload, data, waiting, queue⟩
      · refine ⟨_, _, rfl, sent ▸ (afterSend_spec s p fillAt (s.plu.get p)).1, fun h => absurd h fits, fun _ h => absurd h same⟩

end Sys2Proof.Machine
end

section
/-! Proofs about read data and aborts (R98, R107, R111, R112). -/

namespace Sys2Proof.Machine

/- Declarations are elaborated one after another, which keeps the check within its memory. -/
set_option Elab.async false

variable {p : Port} {s : State} {e : Entry} {tag : Nat} {off : BitVec 32} {bytes : List Byte}

/-! ### Read data -/

theorem exec_driveReadData_of_quiet (hq : Quiet s) (hf : s.dct.find tag = some e) :
    exec (.driveReadData tag off bytes) s = .next (routeReadData e off bytes s) := by
  have arm : exec (.driveReadData tag off bytes) s = .next
      (match (settle s).dct.find tag with
       | some e => routeReadData e off bytes (settle s)
       | none => settle s) := rfl
  rw [arm, settle_of_quiet hq, hf]

theorem routeReadData_server (hop : e.op = .read) (ho : e.origin = .server p) :
    routeReadData e off bytes s = sendReadData p e off bytes s := by
  rw [routeReadData, hop, ho]

theorem routeReadData_bridge (hop : e.op = .read) (ho : e.origin = .bridge) :
    routeReadData e off bytes s = takeImageBytes off.toNat bytes s := by
  rw [routeReadData, hop, ho]

/-- Bytes that follow at once on those read so far join them at the end. -/
theorem overlay_next {buf : List Byte} {n : Nat} (h : buf.length = n) : overlay buf n bytes = buf ++ bytes := by
  subst h
  simp [overlay, List.drop_eq_nil_of_le]

theorem takeImageBytes_next (hb : s.ic.readBuf.length = off.toNat)
    (hr : off.toNat + bytes.length ≤ imageBlocks s.blockSize * s.blockSize) (hne : bytes ≠ []) :
    takeImageBytes off.toNat bytes s = { s with ic := { s.ic with readBuf := s.ic.readBuf ++ bytes } } := by
  have some_bytes : 0 < bytes.length := List.length_pos_iff.mpr hne
  have room : off.toNat < imageSpace s.blockSize := by
    rw [imageSpace]
    omega
  have fits : (s.ic.readBuf ++ bytes).length ≤ imageSpace s.blockSize := by
    rw [List.length_append, hb, imageSpace]
    exact hr
  rw [takeImageBytes, if_pos room, State.onIc, overlay_next hb, List.take_of_length_le fits]

theorem exec_of_no_entry (hq : Quiet s) (hf : s.dct.find tag = none) :
    exec (.driveReadData tag off bytes) s = .next s ∧ (∀ st d, exec (.driveCompletion tag st d) s = .next s) ∧
      ∀ done, exec (.abortAnswer tag done) s = .next s := by
  have arm : exec (.driveReadData tag off bytes) s = .next
      (match (settle s).dct.find tag with
       | some e => routeReadData e off bytes (settle s)
       | none => settle s) := rfl
  have completion (st : DriveStatus) (d : Word) : exec (.driveCompletion tag st d) s = .next
      (match (settle s).dct.find tag with
       | some e => endEntry e (.completion st d) (settle s)
       | none => settle s) := rfl
  have aborted (done : Bool) : exec (.abortAnswer tag done) s = .next
      (match (settle s).dct.find tag with
       | some e => if done && e.abort.isSome then endEntry e .aborted (settle s) else settle s
       | none => settle s) := rfl
  refine ⟨?_, fun st d => ?_, fun done => ?_⟩
  · rw [arm, settle_of_quiet hq, hf]
  · rw [completion, settle_of_quiet hq, hf]
  · rw [aborted, settle_of_quiet hq, hf]

/-! ### The command timer -/

theorem exec_commandTimerExpiry_of_quiet (hq : Quiet s) (hf : s.dct.find tag = some e) :
    exec (.commandTimerExpiry tag) s =
      .next (if e.cmdTimer.isSome && e.abort.isNone then abortEntry tag s else s) := by
  have arm : exec (.commandTimerExpiry tag) s = .next
      (match (settle s).dct.find tag with
       | some e => if e.cmdTimer.isSome && e.abort.isNone then abortEntry tag (settle s) else settle s
       | none => settle s) := rfl
  rw [arm, settle_of_quiet hq, hf]

/-- R111: the entry of a tag once ABORT is sent for it; the others stay. -/
def Entry.abortedAt (tag tAbt : Nat) (f : Entry) : Entry :=
  if f.tag = tag then { f with cmdTimer := none, abort := some tAbt } else f

theorem abortEntry_eq (tag : Nat) (s : State) : abortEntry tag s = { s with dct := { s.dct with
    out := s.dct.out ++ [.abort tag]
    entries := s.dct.entries.map (·.abortedAt tag s.cfg.tAbt) } } := by
  simp [abortEntry, sendDrive, changeEntry, State.onDct, Entry.sendAbort, Entry.abortedAt]

@[simp] theorem abortedAt_tag (n : Nat) (f : Entry) : (f.abortedAt tag n).tag = f.tag := by
  unfold Entry.abortedAt
  split <;> rfl

@[simp] theorem abortedAt_origin (n : Nat) (f : Entry) : (f.abortedAt tag n).origin = f.origin := by
  unfold Entry.abortedAt
  split <;> rfl

theorem abortEntry_find (hf : s.dct.find tag = some e) :
    (abortEntry tag s).dct.find tag = some { e with cmdTimer := none, abort := some s.cfg.tAbt } := by
  have named : e.tag = tag := by simpa using List.find?_some hf
  have found : s.dct.entries.find? (fun f => f.tag == tag) = some e := hf
  rw [abortEntry_eq, Dct.find, List.find?_map]
  simp only [Function.comp_def, abortedAt_tag, found, Option.map_some]
  rw [Entry.abortedAt, if_pos named]

theorem abortEntry_bridgeReady : (abortEntry tag s).dct.bridgeReady = s.dct.bridgeReady := by
  rw [abortEntry_eq]
  simp [Dct.bridgeReady, Dct.tagUsed, Dct.bridgeTag, List.any_map, Function.comp_def]

theorem abortEntry_portIsClear : (abortEntry tag s).dct.portIsClear p = s.dct.portIsClear p := by
  rw [abortEntry_eq]
  simp [Dct.portIsClear, Dct.portEntries, List.filter_map, Function.comp_def]

/-- An ABORT sent makes no internal step due. -/
theorem abortEntry_quiet (hq : Quiet s) : Quiet (abortEntry tag s) := by
  rw [quiet_iff, abortEntry_bridgeReady, abortEntry_portIsClear, abortEntry_portIsClear]
  rw [abortEntry_eq]
  exact (quiet_iff s).mp hq

/-- Settles O47: read data goes by the op, the origin and the watched field; an ABORT is sent once. -/
theorem readDataAndAborts : Obligations.ReadDataAndAborts := by
  refine ⟨fun tag off bytes s hq => ⟨fun e p hf hop ho => ⟨fun hw hn => ?_, fun hw => ?_⟩, fun e hf hop ho hb hr hne => ?_,
    exec_of_no_entry hq⟩, fun e done s hq hf => ⟨fun ht ha => ⟨_, ?_, abortEntry_eq e.tag s, ?_⟩, fun h => ?_⟩⟩
  · rw [exec_driveReadData_of_quiet hq hf, routeReadData_server hop ho, sendReadData,
      if_neg (by simp [hw, sending_eq_false hn])]
    rfl
  · rw [exec_driveReadData_of_quiet hq hf, routeReadData_server hop ho, sendReadData,
      if_pos (by simp [Option.isSome_iff_ne_none.mpr hw])]
  · rw [exec_driveReadData_of_quiet hq hf, routeReadData_bridge hop ho, takeImageBytes_next hb hr hne]
  · rw [exec_commandTimerExpiry_of_quiet hq hf, if_pos (by simp [ht, ha])]
  · rw [exec_commandTimerExpiry_of_quiet (abortEntry_quiet hq) (abortEntry_find hf), if_neg (by simp)]
  · rw [exec_abortAnswer_of_quiet hq hf, if_neg (by rcases h with h | h <;> simp [h])]

end Sys2Proof.Machine
end

section
/-! Proofs about the drive reset (R113, R114, R173, R178). -/

namespace Sys2Proof.Machine

/- Declarations are elaborated one after another, which keeps the check within its memory. -/
set_option Elab.async false

variable {p : Port} {s : State} {e : Entry}

/-! ### One entry in the drive reset -/

/-- R114: the link of a port when a drive reset ends an entry. -/
def Plu.resetBy (p : Port) (u : Plu) (e : Entry) : Plu :=
  if e.origin = .server p ∧ e.watched = none then
    if e.op = .read ∧ u.sending e.seq = true then
      { u with readDone := u.readDone ++ [⟨e.seq, false, e.serverTag, .driveReset, 0⟩] }
    else u.handOver (.completion e.serverTag .driveReset 0)
  else u

/-- R114: the Takeover Controller when a drive reset ends an entry. -/
def Tc.resetBy (t : Tc) (e : Entry) : Tc :=
  if e.origin ≠ .bridge ∧ e.op = .write ∧ e.watched ≠ none then t.withOutcome (e.watched.getD 0) e.seq .lostInReset else t

theorem completeEntry_reset (p : Port) (e : Entry) (s : State) (ho : e.origin = .server p) (hw : e.watched = none) :
    completeEntry p e .reset s = { s with plu := s.plu.set p ((s.plu.get p).resetBy p e) } := by
  rw [Plu.resetBy, if_pos ⟨ho, hw⟩]
  by_cases waits : e.op = .read ∧ (s.plu.get p).sending e.seq = true
  · rw [completeEntry_waits waits.1 waits.2, if_pos waits]
    rfl
  · rw [if_neg waits, completeEntry_handOver fun read => by
      rw [← Bool.not_eq_true]
      exact fun sends => waits ⟨read, sends⟩]
    rfl

theorem resetBy_other {q : Port} (h : e.origin ≠ .server p) (u : Plu) : u.resetBy p e = u := if_neg fun c => h c.1

theorem plu_resetBy (ho : e.origin = .server p) (l : PerPort Plu) :
    l.set p ((l.get p).resetBy p e) = ⟨l.a.resetBy .a e, l.b.resetBy .b e⟩ := by
  cases p with
  | a => rw [resetBy_other (p := .b) (q := .b) (by simp [ho]) l.b]; rfl
  | b => rw [resetBy_other (p := .a) (q := .a) (by simp [ho]) l.a]; rfl

theorem resetBy_watched (hw : e.watched ≠ none) (u : Plu) : u.resetBy p e = u := if_neg fun c => hw c.2

theorem tcResetBy_unwatched (hw : e.watched = none) (t : Tc) : t.resetBy e = t := if_neg fun c => c.2.2 hw

theorem routeReset_server (ho : e.origin = .server p) : routeResult e .reset s = { s with
    plu := ⟨s.plu.a.resetBy .a e, s.plu.b.resetBy .b e⟩, tc := s.tc.resetBy e } := by
  cases hw : e.watched with
  | none =>
    rw [routeResult_unwatched ho hw, completeEntry_reset p e s ho hw, plu_resetBy ho, tcResetBy_unwatched hw]
  | some id =>
    have watched : e.watched ≠ none := by simp [hw]
    rw [resetBy_watched watched, resetBy_watched watched]
    by_cases hop : e.op = .write
    · rw [routeResult_watchedWrite ho hw hop, Tc.resetBy, if_pos ⟨by simp [ho], hop, watched⟩, hw]
      rfl
    · rw [routeResult_watchedOther ho hw hop, Tc.resetBy, if_neg fun c => hop c.2.1]

theorem routeReset_bridge (ho : e.origin = .bridge) : routeResult e .reset s = bridgeEnds false s := by
  rw [routeResult, ho]
  rfl

theorem bridgeEnds_idle {good : Bool} (hb : s.ic.bridge ≠ .starting) (hc : s.ic.cycle = .idle) :
    bridgeEnds good s = s := by
  rw [bridgeEnds_started hb, hc]

/-- A bridge command that a reset fails changes the image cycle and its events alone. -/
theorem bridgeFails_frame (hb : s.ic.bridge ≠ .starting) : ∃ wait ic mi, bridgeEnds false s = { s with
    dct := { s.dct with bridgeWait := wait }, ic := ic, mi := mi } ∧ ic.bridge = s.ic.bridge := by
  by_cases idle : s.ic.cycle = .idle
  · exact ⟨s.dct.bridgeWait, s.ic, s.mi, bridgeEnds_idle hb idle, rfl⟩
  · rw [bridgeEnds_failed hb idle]
    by_cases again : s.ic.attempt < 3
    · rw [attemptFails_again again]
      exact ⟨_, _, _, rfl, rfl⟩
    · rw [attemptFails_last again]
      exact ⟨_, _, _, rfl, rfl⟩

/-! ### All the entries -/

theorem resetFold_eq (es : List Entry) (s : State) (h : s.ic.bridge ≠ .starting ∨ ∀ e ∈ es, e.origin ≠ .bridge) :
    ∃ wait ic mi, es.foldl (fun s e => routeResult e .reset s) s = { s with
      plu := ⟨es.foldl (Plu.resetBy .a) s.plu.a, es.foldl (Plu.resetBy .b) s.plu.b⟩
      tc := es.foldl Tc.resetBy s.tc
      dct := { s.dct with bridgeWait := wait }, ic := ic, mi := mi } ∧ ic.bridge = s.ic.bridge ∧
      ((∀ e ∈ es, e.origin ≠ .bridge) → wait = s.dct.bridgeWait ∧ ic = s.ic ∧ mi = s.mi) := by
  induction es generalizing s with
  | nil => exact ⟨_, _, _, rfl, rfl, fun _ => ⟨rfl, rfl, rfl⟩⟩
  | cons e es ih =>
    have rest : s.ic.bridge ≠ .starting ∨ ∀ f ∈ es, f.origin ≠ .bridge :=
      h.imp_right fun h f hf => h f (List.mem_cons_of_mem _ hf)
    rw [List.foldl_cons]
    cases ho : e.origin with
    | server p =>
      rw [routeReset_server ho]
      obtain ⟨wait, ic, mi, fold, bridge, kept⟩ := ih { s with
        plu := ⟨s.plu.a.resetBy .a e, s.plu.b.resetBy .b e⟩, tc := s.tc.resetBy e } rest
      exact ⟨wait, ic, mi, fold, bridge, fun h => kept fun f hf => h f (List.mem_cons_of_mem _ hf)⟩
    | bridge =>
      have running : s.ic.bridge ≠ .starting := h.resolve_right fun h => h e List.mem_cons_self ho
      obtain ⟨wait, ic, mi, fails, bridge⟩ := bridgeFails_frame running
      rw [routeReset_bridge ho, fails]
      obtain ⟨wait', ic', mi', fold, bridge', -⟩ := ih { s with
        dct := { s.dct with bridgeWait := wait }, ic := ic, mi := mi } (.inl (bridge.symm ▸ running))
      refine ⟨wait', ic', mi', ?_, bridge'.trans bridge, fun h => absurd ho (h e List.mem_cons_self)⟩
      have links (q : Port) (u : Plu) : u.resetBy q e = u := resetBy_other (q := q) (by simp [ho]) u
      have tc : s.tc.resetBy e = s.tc := if_neg fun c => c.1 ho
      rw [List.foldl_cons, List.foldl_cons, List.foldl_cons, links, links, tc, fold]

/-! ### The drive reset -/

/-- R114: the part when its drive begins to reset, before the entries end. -/
def State.resetBegun (s : State) : State :=
  { s with
    dct := { s.dct with entries := [], drive := .resetting }
    oc := { s.oc with extents := s.oc.extents.map fun e => { e with inflight := 0 } } }

theorem driveReset_fold (s : State) : driveReset s =
    reattachAttempt 1 (raise .driveReset (s.dct.entries.foldl (fun s e => routeResult e .reset s) s.resetBegun)) := rfl

/-- R115: the drive command table once the drive reset has begun. -/
def Dct.resetStarted (d : Dct) : Dct :=
  { d with entries := [], drive := .resetting, reattachTimer := some 5, reattachNo := 1, out := d.out ++ [.reset, .identify] }

theorem driveReset_eq (h : s.ic.bridge ≠ .starting ∨ ∀ e ∈ s.dct.entries, e.origin ≠ .bridge) :
    ∃ wait ic mi, driveReset s = { s with
      plu := ⟨s.dct.entries.foldl (Plu.resetBy .a) s.plu.a, s.dct.entries.foldl (Plu.resetBy .b) s.plu.b⟩
      tc := s.dct.entries.foldl Tc.resetBy s.tc
      oc := { s.oc with extents := s.oc.extents.map fun e => { e with inflight := 0 } }
      dct := { s.dct.resetStarted with bridgeWait := wait }
      ic := ic
      mi := { mi with events := mi.events ||| 16#16 } } ∧ ic.bridge = s.ic.bridge ∧
      ((∀ e ∈ s.dct.entries, e.origin ≠ .bridge) → wait = s.dct.bridgeWait ∧ ic = s.ic ∧ mi = s.mi) := by
  obtain ⟨wait, ic, mi, fold, bridge, kept⟩ := resetFold_eq s.dct.entries s.resetBegun h
  refine ⟨wait, ic, mi, ?_, bridge, kept⟩
  rw [driveReset_fold, fold]
  rfl

/-! ### DV_PRSN going high -/

/-- R114: DV_PRSN has gone high. -/
def State.prsnHigh (s : State) : State := { s with dct := { s.dct with prsnLow := false } }

theorem bridgeFails_prsnHigh (s : State) : bridgeEnds false s.prsnHigh = (bridgeEnds false s).prsnHigh := by
  by_cases starting : s.ic.bridge = .starting
  · have recovers (t : State) (h : t.ic.bridge = .starting) : bridgeEnds false t = enterRecovery t :=
      (if_pos h).trans (imageReadEnds_recovery (.inl rfl))
    rw [recovers s starting, recovers s.prsnHigh starting, enterRecovery_eq, enterRecovery_eq]
    rfl
  · by_cases idle : s.ic.cycle = .idle
    · rw [bridgeEnds_idle starting idle, bridgeEnds_idle (s := s.prsnHigh) starting idle]
    · rw [bridgeEnds_failed starting idle, bridgeEnds_failed (s := s.prsnHigh) starting idle]
      by_cases again : s.ic.attempt < 3
      · rw [attemptFails_again again, attemptFails_again (s := s.prsnHigh) again]
        rfl
      · rw [attemptFails_last again, attemptFails_last (s := s.prsnHigh) again]
        rfl

theorem routeReset_prsnHigh (s : State) (e : Entry) :
    routeResult e .reset s.prsnHigh = (routeResult e .reset s).prsnHigh := by
  cases ho : e.origin with
  | server p =>
    rw [routeReset_server ho, routeReset_server ho]
    rfl
  | bridge => rw [routeReset_bridge ho, routeReset_bridge ho, bridgeFails_prsnHigh]

theorem driveReset_prsnHigh (s : State) : driveReset s.prsnHigh = (driveReset s).prsnHigh := by
  have fold : s.dct.entries.foldl (fun s e => routeResult e .reset s) s.resetBegun.prsnHigh =
      (s.dct.entries.foldl (fun s e => routeResult e .reset s) s.resetBegun).prsnHigh :=
    List.foldl_hom State.prsnHigh fun t e => routeReset_prsnHigh t e
  rw [driveReset_fold, driveReset_fold]
  have begun : s.prsnHigh.resetBegun = s.resetBegun.prsnHigh := rfl
  have table : s.prsnHigh.dct.entries = s.dct.entries := rfl
  rw [begun, table, fold]
  rfl

theorem exec_dvPrsnHigh_ready (hq : Quiet s) (hd : s.dct.drive = .ready) (hl : s.dct.prsnLow = true) :
    exec .dvPrsnHigh s = .next (driveReset s).prsnHigh := by
  rw [exec_dvPrsnHigh_of_quiet hq, ← driveReset_prsnHigh]
  simp [prsnGoesHigh, hd, hl, State.onDct, State.prsnHigh]

theorem exec_abortTimerExpiry_of_quiet (hq : Quiet s) (hf : s.dct.find e.tag = some e) (ha : e.abort.isSome = true) :
    exec (.abortTimerExpiry e.tag) s = .next (driveReset s) := by
  have arm : exec (.abortTimerExpiry e.tag) s = .next
      (match (settle s).dct.find e.tag with
       | some e => if e.abort.isSome then driveReset (settle s) else settle s
       | none => settle s) := rfl
  rw [arm, settle_of_quiet hq, hf]
  exact congrArg _ (if_pos ha)

theorem find_only (h : s.dct.entries = [e]) : s.dct.find e.tag = some e := by
  simp [Dct.find, h]

end Sys2Proof.Machine
end

section
/-! The obligation about the drive reset, by its parts (R113, R114, R178). -/

namespace Sys2Proof.Machine

/- Declarations are elaborated one after another, which keeps the check within its memory. -/
set_option Elab.async false

variable {p : Port} {s : State} {e : Entry}

theorem foldl_resetBy (es : List Entry) (u : Plu) : es.foldl (Plu.resetBy p) u =
    (es.filter fun e => e.origin = .server p ∧ e.watched = none).foldl (fun u e =>
      if e.op = .read ∧ u.sending e.seq = true then
        { u with readDone := u.readDone ++ [⟨e.seq, false, e.serverTag, .driveReset, 0⟩] }
      else u.handOver (.completion e.serverTag .driveReset 0)) u := by
  rw [List.foldl_filter]
  simp only [decide_eq_true_eq]
  rfl

theorem foldl_resetBy_watched {es : List Entry} (h : ∀ e ∈ es, e.watched ≠ none) (u : Plu) :
    es.foldl (Plu.resetBy p) u = u := by
  have none_answered : (es.filter fun e => e.origin = .server p ∧ e.watched = none) = [] := by
    rw [List.filter_eq_nil_iff]
    intro e he answered
    exact h e he (of_decide_eq_true answered).2
  rw [foldl_resetBy, none_answered, List.foldl_nil]

/-- R26: a COMPLETION that a reset leaves waiting holds no tag. -/
theorem heldTag_foldl_resetBy {es : List Entry} {tag : Word} {u : Plu} :
    (∃ r ∈ (es.foldl (Plu.resetBy p) u).readDone, r.holdsTag = true ∧ r.tag = tag) ↔
      ∃ r ∈ u.readDone, r.holdsTag = true ∧ r.tag = tag := by
  have handed (m : OutMsg) (v : Plu) : (v.handOver m).readDone = v.readDone := by
    unfold Plu.handOver
    split <;> rfl
  refine foldl_keeps (fun v : Plu => (∃ r ∈ v.readDone, r.holdsTag = true ∧ r.tag = tag) ↔
    ∃ r ∈ u.readDone, r.holdsTag = true ∧ r.tag = tag) (Plu.resetBy p) (fun v e hv => ?_) es u Iff.rfl
  rw [← hv, Plu.resetBy]
  split
  · split
    · simp [or_and_right, exists_or]
    · rw [handed]
  · exact Iff.rfl

/-- The Takeover Controller's part of a drive reset, as outcomes taken one after another. -/
theorem foldl_tcResetBy (es : List Entry) (s : State) : es.foldl Tc.resetBy s.tc =
    ((es.filter fun e => e.origin ≠ .bridge ∧ e.op = .write ∧ e.watched ≠ none).foldl
      (fun v e => takeOutcome (e.watched.getD 0) e.seq .lostInReset v) s).tc := by
  rw [List.foldl_filter]
  simp only [decide_eq_true_eq]
  induction es generalizing s with
  | nil => rfl
  | cons e es ih =>
    rw [List.foldl_cons, List.foldl_cons, Tc.resetBy, ← ih]
    split <;> rfl

theorem foldl_tcResetBy_unwatched {es : List Entry} (h : ∀ e ∈ es, e.watched = none) (t : Tc) :
    es.foldl Tc.resetBy t = t :=
  List.foldlRecOn es Tc.resetBy (motive := fun v => v = t) rfl fun v hv e he => by
    rw [tcResetBy_unwatched (h e he), hv]

theorem foldl_tcResetBy_intents (es : List Entry) (t : Tc) :
    es.foldl Tc.resetBy t = { t with intents := (es.foldl Tc.resetBy t).intents } := by
  refine foldl_keeps (fun v : Tc => v = { t with intents := v.intents }) Tc.resetBy (fun v e hv => ?_) es t rfl
  rw [Tc.resetBy]
  split
  · rw [hv]
    rfl
  · exact hv

/-- A reset with no command of the part's own at the drive. -/
theorem driveReset_served (h : ∀ e ∈ s.dct.entries, e.origin ≠ .bridge) : driveReset s = { s with
    plu := ⟨s.dct.entries.foldl (Plu.resetBy .a) s.plu.a, s.dct.entries.foldl (Plu.resetBy .b) s.plu.b⟩
    tc := s.dct.entries.foldl Tc.resetBy s.tc
    oc := { s.oc with extents := s.oc.extents.map fun e => { e with inflight := 0 } }
    dct := s.dct.resetStarted
    mi := { s.mi with events := s.mi.events ||| 16#16 } } := by
  obtain ⟨wait, ic, mi, eq, -, kept⟩ := driveReset_eq (.inr h)
  obtain ⟨rfl, rfl, rfl⟩ := kept h
  exact eq

theorem resetBy_answered (ho : e.origin = .server p) (hw : e.watched = none) (hop : e.op ≠ .read) (u : Plu) :
    u.resetBy p e = u.handOver (.completion e.serverTag .driveReset 0) := by
  rw [Plu.resetBy, if_pos ⟨ho, hw⟩, if_neg fun c => hop c.1]

/-- A reset that fails a WRITE of the image before its third attempt. -/
theorem driveReset_imageWrite (he : s.dct.entries = [e]) (ho : e.origin = .bridge) (hb : s.ic.bridge ≠ .starting)
    (hc : s.ic.cycle = .writing) (ht : s.ic.attempt < 3) : driveReset s = { s with
      dct := { s.dct.resetStarted with bridgeWait := some .imageWrite }
      mi := { s.mi with events := s.mi.events ||| 16#16 }
      oc := { s.oc with extents := s.oc.extents.map fun e => { e with inflight := 0 } }
      ic := { s.ic with attempt := s.ic.attempt + 1 } } := by
  have busy : s.ic.cycle ≠ .idle := by simp [hc]
  rw [driveReset_fold, he, List.foldl_cons, List.foldl_nil, routeReset_bridge ho,
    bridgeEnds_failed (s := s.resetBegun) hb busy, attemptFails_again (s := s.resetBegun) ht, ← hc]
  rfl

theorem or_rotated (a b c d : Word) : a ||| b ||| c ||| d = a ||| c ||| d ||| b := by
  rw [BitVec.or_assoc a b c, BitVec.or_comm b c, ← BitVec.or_assoc, BitVec.or_assoc, BitVec.or_comm b d, ← BitVec.or_assoc]

/-- A reset that ends the image READ. -/
theorem driveReset_imageRead (he : s.dct.entries = [e]) (ho : e.origin = .bridge) (hb : s.ic.bridge = .starting) :
    driveReset s = { s with
      sup := ⟨s.leftStarting .a, s.leftStarting .b⟩
      dct := s.dct.resetStarted
      ic := { s.ic with bridge := .recovery, generation := 0 }
      oc := s.oc.blank
      mi := { s.mi with events :=
        s.mi.events ||| 16#16 ||| 256#16 ||| (if 16 < shiftOf s.oc.visible 16 then 128#16 else 0) } } := by
  have recovers : bridgeEnds false s.resetBegun = enterRecovery s.resetBegun :=
    (if_pos hb).trans (imageReadEnds_recovery (.inl rfl))
  rw [driveReset_fold, he, List.foldl_cons, List.foldl_nil, routeReset_bridge ho, recovers, enterRecovery_eq, or_rotated]
  rfl

theorem tagInUse_of_no_entries {t : State} {tag : Word} (h : t.dct.entries = []) : t.tagInUse p tag = true ↔
    (∃ q ∈ t.au.queue.get p, q.tag = tag) ∨ ∃ r ∈ (t.plu.get p).readDone, r.holdsTag = true ∧ r.tag = tag := by
  simp [State.tagInUse, h]

/-- Settles O48: the reset ends the entries in table order, whatever they are. -/
theorem driveResetStarted : Obligations.DriveResetStarted := by
  refine ⟨fun s hq => ⟨fun hs => ?served, fun e he ho hop ha hb hc ht => ?write⟩, fun s hq hs => ?table,
    fun u seq => sending_iff, fun s e hq he ho hop hb => ?read⟩
  case served =>
    refine ⟨driveReset s, fun e hf ha => exec_abortTimerExpiry_of_quiet hq hf ha, exec_dvPrsnHigh_ready hq, ?_, ?_, ?_, ?_,
      fun hw => ?_, fun hw => ?_, fun e p he ho hw hop => ?_, fun e id he hw hop => ?_⟩ <;> rw [driveReset_served hs]
    · rfl
    · rw [← foldl_tcResetBy_intents]
    · dsimp only
      rw [foldl_resetBy_watched hw, foldl_resetBy_watched hw]
    · exact foldl_tcResetBy_unwatched hw _
    · rw [← resetBy_answered ho hw hop, plu_resetBy ho, he]
      rfl
    · have server : e.origin ≠ .bridge := hs e (he ▸ List.mem_singleton_self e)
      change s.dct.entries.foldl Tc.resetBy s.tc = _
      rw [he, List.foldl_cons, List.foldl_nil, Tc.resetBy, if_pos ⟨server, hop, by simp [hw]⟩, hw]
      rfl
  case write =>
    rw [exec_abortTimerExpiry_of_quiet hq (find_only he) ha, driveReset_imageWrite he ho hb hc ht]
    rfl
  case table =>
    obtain ⟨wait, ic, mi, eq, bridge, -⟩ := driveReset_eq hs
    refine ⟨driveReset s, fun e hf ha => exec_abortTimerExpiry_of_quiet hq hf ha, exec_dvPrsnHigh_ready hq,
      fun p => ?_, ?_⟩ <;> rw [eq]
    · have link : PerPort.get ⟨s.dct.entries.foldl (Plu.resetBy .a) s.plu.a,
          s.dct.entries.foldl (Plu.resetBy .b) s.plu.b⟩ p = s.dct.entries.foldl (Plu.resetBy p) (s.plu.get p) := by
        cases p <;> rfl
      refine ⟨link.trans (foldl_resetBy _ _), fun tag => ?_⟩
      rw [tagInUse_of_no_entries rfl]
      dsimp only
      rw [link, heldTag_foldl_resetBy]
    · exact ⟨foldl_tcResetBy _ _, rfl, rfl, rfl, rfl, rfl, bridge⟩
  case read =>
    refine ⟨driveReset s, exec_abortTimerExpiry_of_quiet hq (find_only he), exec_dvPrsnHigh_ready hq, ?_⟩
    rw [driveReset_imageRead he ho hb]
    exact ⟨rfl, rfl, rfl, rfl, rfl, fun p => by cases p <;> rfl⟩

end Sys2Proof.Machine
end

section
/-! Proofs about the loss and the search of alignment, and the reports they make (R3, R4, R7, R123, R129 to R132). -/

namespace Sys2Proof.Machine

/- Declarations are elaborated one after another, which keeps the check within its memory. -/
set_option Elab.async false

variable {p : Port} {s : State} {fr : Frame}

/-! ### Link down -/

theorem clearStall_eq (p : Port) (s : State) :
    clearStall p s = { s with sup := s.sup.set p { s.sup.get p with stall := 0 } } := rfl

theorem linkDownReport_linked (h : s.port p = .linked) : linkDownReport p s = { s with
    sup := s.sup.set p { s.sup.get p with state := .offline, stall := 0 } } := by
  have state : (s.sup.get p).state = .linked := h
  simp [linkDownReport, clearStall_eq, State.port, state, setPort, State.onSup]

theorem linkDownReport_enrolled (h : s.port p = .enrolled) : linkDownReport p s = { s with
    sup := s.sup.set p { s.sup.get p with
      state := .suspect, cause := .link, confirmed := false, confirm := some s.cfg.tCf, stall := 0 }
    mi := { s.mi with events := s.mi.events ||| 4#16 } } := by
  have state : (s.sup.get p).state = .enrolled := h
  have mask : Event.portDown.mask = 4#16 := rfl
  simp [linkDownReport, clearStall_eq, State.port, state, suspect, raise, mask, State.onSup, State.onMi, State.cfg]

theorem linkDownReport_suspect (h : s.port p = .suspect ∨ s.port p = .held) : linkDownReport p s = { s with
    sup := s.sup.set p { s.sup.get p with cause := .link, stall := 0 } } := by
  have state : (s.sup.get p).state = .suspect ∨ (s.sup.get p).state = .held := h
  rcases state with state | state <;> simp [linkDownReport, clearStall_eq, State.port, state, State.onSup]

theorem linkDownReport_other
    (h : s.port p = .offline ∨ s.port p = .parking ∨ s.port p = .parked ∨ s.port p = .fenced) :
    linkDownReport p s = { s with sup := s.sup.set p { s.sup.get p with stall := 0 } } := by
  have state : (s.sup.get p).state = .offline ∨ (s.sup.get p).state = .parking ∨ (s.sup.get p).state = .parked ∨
    (s.sup.get p).state = .fenced := h
  rcases state with state | state | state | state <;> simp [linkDownReport, clearStall_eq, State.port, state]

theorem linkDownReport_frame (p : Port) (s : State) :
    linkDownReport p s = { s with sup := (linkDownReport p s).sup, mi := (linkDownReport p s).mi } := by
  unfold linkDownReport
  dsimp only
  split <;> rfl

theorem exec_tLlExpiry_of_losing (hq : Quiet s) (ha : (s.plu.get p).align = .losing)
    (ht : (s.plu.get p).tLl.isSome = true) : exec (.tLlExpiry p) s = .next (loseLink p s) := by
  have arm : exec (.tLlExpiry p) s = .next
      (if ((settle s).plu.get p).align = .losing && ((settle s).plu.get p).tLl.isSome then loseLink p (settle s)
        else settle s) := rfl
  rw [arm, settle_of_quiet hq, if_pos (by simp [ha, ht])]

/-! ### The pulse-stall limit -/

theorem exec_pulseStallLimit_of_due (hd : (s.sup.get p).stallDue = true) :
    exec (.pulseStallLimit p) s = .next (stallLimit p s) := by
  have arm : exec (.pulseStallLimit p) s = .next (if (s.sup.get p).stallDue then stallLimit p s else s) := rfl
  rw [arm, if_pos hd]

theorem stallLimit_enrolled (h : s.port p = .enrolled) : stallLimit p s = raise .portDown (s.onSup p fun u =>
    { u with state := .suspect, cause := .stall, confirmed := false, confirm := some s.cfg.tCf, stallDue := false }) := by
  have state : (s.sup.get p).state = .enrolled := h
  simp [stallLimit, State.port, state, suspect, raise, State.onSup, State.cfg]

theorem stallLimit_other (h : s.port p ≠ .enrolled) : stallLimit p s = s.onSup p fun u => { u with stallDue := false } := by
  have state : (s.sup.get p).state ≠ .enrolled := h
  simp [stallLimit, State.port, state, State.onSup]

/-- Settles O11: the link-DOWN report by port state, the count at the end of a cycle, and its limit. -/
theorem suspicionBegins : Obligations.SuspicionBegins := by
  refine ⟨fun p s hq ha ht => ?_, fun p s hq hl => ?_, fun p s hd => ⟨fun h => ?_, fun h => ?_⟩⟩
  · have lost : loseLink p s = linkDownReport p (s.onPlu p fun u =>
        { u with align := .down, tLl := none, linkLoss := satSucc u.linkLoss }) := rfl
    rw [exec_tLlExpiry_of_losing hq ha ht, lost]
    refine ⟨_, rfl, ?_, ?_, fun h => ?_, fun h => ?_, fun h => ?_, fun h => ?_⟩
    · rw [linkDownReport_frame]
      rfl
    · rw [linkDownReport_frame]
      rfl
    · rw [linkDownReport_linked (s := s.onPlu p _) h]
      exact ⟨rfl, rfl⟩
    · rw [linkDownReport_enrolled (s := s.onPlu p _) h]
      exact ⟨rfl, rfl⟩
    · rw [linkDownReport_suspect (s := s.onPlu p _) h]
      exact ⟨rfl, rfl⟩
    · rw [linkDownReport_other (s := s.onPlu p _) h]
      exact ⟨rfl, rfl⟩
  · obtain ⟨fillAt, -, counted⟩ := sendFrames_port s p
    refine ⟨_, exec_frameSend_of_quiet hq, fun he hu hs => ?_, fun h => ?_⟩
    · rw [counted, stallCounted, if_pos ⟨hl, he, hu, hs⟩]
    · rw [counted, stallCounted, if_neg]
      rintro ⟨-, he, hu, hs⟩
      exact h.elim (· he) fun h => h.elim hu hs
  · rw [exec_pulseStallLimit_of_due hd, stallLimit_enrolled h]
  · rw [exec_pulseStallLimit_of_due hd, stallLimit_other h]

/-! ### The search for alignment -/

theorem exec_candidateFrame_of_quiet (hq : Quiet s) (ha : (s.plu.get p).align ≠ .aligned) :
    exec (.candidateFrame p fr) s = .next (searchFrame p fr s) := by
  have arm : exec (.candidateFrame p fr) s = .next
      (if ((settle s).plu.get p).align = .aligned then settle s else searchFrame p fr (settle s)) := rfl
  rw [arm, settle_of_quiet hq, if_neg ha]

theorem frameCounts_iff : frameCounts fr = true ↔ fr.good = true ∧ fr.marker < 8 := by
  simp [frameCounts]

theorem searchFrame_lost (h : ¬ (fr.good = true ∧ fr.marker < 8)) :
    searchFrame p fr s = s.onPlu p fun u => { u with run := 0 } :=
  if_pos (by rwa [Bool.not_eq_true', ← Bool.not_eq_true, frameCounts_iff])

theorem searchFrame_begins (hg : fr.good = true) (hm : fr.marker < 8)
    (h : (s.plu.get p).run = 0 ∨ fr.marker ≠ ((s.plu.get p).runMarker + 1) % 8) :
    searchFrame p fr s = s.onPlu p fun u => { u with run := 1, runMarker := fr.marker } := by
  have counts : frameCounts fr = true := frameCounts_iff.mpr ⟨hg, hm⟩
  refine (if_neg (by simp [counts])).trans (if_pos ?_)
  simpa [nextPos] using h

theorem searchFrame_next (hg : fr.good = true) (hm : fr.marker = ((s.plu.get p).runMarker + 1) % 8)
    (hr : (s.plu.get p).run ≠ 0) : searchFrame p fr s =
      if (s.plu.get p).run = 2 then enterAligned p fr.marker s
      else s.onPlu p fun u => { u with run := u.run + 1, runMarker := fr.marker } := by
  have counts : frameCounts fr = true := frameCounts_iff.mpr ⟨hg, by omega⟩
  refine (if_neg (by simp [counts])).trans (if_neg ?_)
  simp [hr, hm, nextPos]

theorem searchFrame_third (hg : fr.good = true) (hm : fr.marker = ((s.plu.get p).runMarker + 1) % 8)
    (hr : (s.plu.get p).run = 2) : searchFrame p fr s = enterAligned p fr.marker s := by
  rw [searchFrame_next hg hm (by omega), if_pos hr]

/-! ### Entry to ALIGNED -/

/-- R4: the part once the link of a port is ALIGNED, before any report. -/
def State.aligned (s : State) (p : Port) (marker : Nat) : State := s.onPlu p (·.align3 marker)

theorem enterAligned_losing (h : (s.plu.get p).align = .losing) (marker : Nat) :
    enterAligned p marker s = s.aligned p marker := by
  simp [enterAligned, h, State.aligned]

theorem enterAligned_down (h : (s.plu.get p).align = .down) (marker : Nat) :
    enterAligned p marker s = linkUpReport p (s.aligned p marker) := by
  simp [enterAligned, h, State.aligned]

theorem aligned_self (p : Port) (marker : Nat) (s : State) :
    s.aligned p marker = s.onPlu p fun _ => (s.plu.get p).align3 marker := rfl

theorem linkUpReport_offline (h : s.port p = .offline) (hb : s.ic.bridge ≠ .starting) :
    linkUpReport p s = setPort p .linked s := by
  rw [linkUpReport, h]
  exact if_neg hb

theorem linkUpReport_none (h : (s.port p = .offline ∧ s.ic.bridge = .starting) ∨ s.port p = .linked ∨
    s.port p = .enrolled ∨ s.port p = .parking ∨ s.port p = .parked ∨ s.port p = .fenced) : linkUpReport p s = s := by
  rw [linkUpReport]
  rcases h with ⟨h, hb⟩ | h | h | h | h | h <;> rw [h]
  exact if_pos hb

theorem linkUpReport_suspect (h : s.port p = .suspect ∨ s.port p = .held) : linkUpReport p s =
    if (s.sup.get p).cause = .link ∧ (s.plu.get p).settled.health = .running then clearCause p s else s := by
  rw [linkUpReport]
  rcases h with h | h <;> rw [h] <;> simp

theorem aligned_plu (p : Port) (marker : Nat) (s : State) :
    (s.aligned p marker).plu.get p = (s.plu.get p).align3 marker := PerPort.get_set_self ..

theorem clearCause_plu (p : Port) (s : State) : (clearCause p s).plu.get p = s.plu.get p :=
  (judge_peerKept p (returnToEnrolled p s)).2.1

theorem linkUpReport_plu (p : Port) (s : State) : (linkUpReport p s).plu.get p = s.plu.get p := by
  unfold linkUpReport
  split
  · split <;> rfl
  · split
    · exact clearCause_plu p s
    · rfl
  · split
    · exact clearCause_plu p s
    · rfl
  · rfl

theorem enterAligned_plu (p : Port) (marker : Nat) (s : State) :
    (enterAligned p marker s).plu.get p = (s.plu.get p).align3 marker := by
  unfold enterAligned
  dsimp only
  split
  · exact (linkUpReport_plu p _).trans (aligned_plu p marker s)
  · exact aligned_plu p marker s

theorem align3_eq (u : Plu) (marker : Nat) : u.align3 marker = { u with
    align := .aligned, run := 3, runMarker := marker
    phase := some ((marker + 8 - u.localPos % 8) % 8)
    shiftCount := (match u.phase with
      | none => u.shiftCount
      | some old => if old = (marker + 8 - u.localPos % 8) % 8 then u.shiftCount else satSucc u.shiftCount)
    expected := some ((marker + 1) % 8), history := [], cand := .none, cycleWords := none, rx := .seek, tLl := none } := by
  unfold Plu.align3 Plu.shifted phaseOf nextPos
  cases u.phase <;> rfl

/-- R130, R132: the third frame under a port that is SUSPECT or HELD. -/
theorem third_of_doubted (hq : Quiet s) (ha : (s.plu.get p).align = .down) (hg : fr.good = true)
    (hm : fr.marker = ((s.plu.get p).runMarker + 1) % 8) (hr : (s.plu.get p).run = 2)
    (hp : s.port p = .suspect ∨ s.port p = .held) :
    exec (.candidateFrame p fr) s = .next (enterAligned p fr.marker s) ∧
      ((s.sup.get p).cause = .link → (s.plu.get p).settled.health = .running →
        enterAligned p fr.marker s = judge p.peer (returnToEnrolled p (s.aligned p fr.marker))) ∧
      ((s.sup.get p).cause ≠ .link ∨ (s.plu.get p).settled.health ≠ .running →
        enterAligned p fr.marker s = s.aligned p fr.marker) := by
  have down : (s.plu.get p).align ≠ .aligned := by simp [ha]
  have reported : enterAligned p fr.marker s =
      if (s.sup.get p).cause = .link ∧ (s.plu.get p).settled.health = .running then clearCause p (s.aligned p fr.marker)
      else s.aligned p fr.marker := by
    rw [enterAligned_down ha, linkUpReport_suspect (s := s.aligned p fr.marker) hp, aligned_plu]
    rfl
  refine ⟨by rw [exec_candidateFrame_of_quiet hq down, searchFrame_third hg hm hr], fun hc hh => ?_, fun h => ?_⟩
  · rw [reported, if_pos ⟨hc, hh⟩, clearCause]
  · rw [reported, if_neg (by grind)]

/-- Settles O6: the search run, frame by frame, and the reports of the third frame. -/
theorem alignmentSearch : Obligations.AlignmentSearch := by
  refine ⟨fun p fr s hq ha => ⟨fun h => ?_, fun hg hm h => ?_, fun hg hm hr => ?_⟩,
    fun p fr s hq ha hg hm hr => ?third, fun p fr s hq ha hg hm hr hp hj => ?back, fun p fr s hq ha hg hm hr hp => ?judged⟩
  · rw [exec_candidateFrame_of_quiet hq ha, searchFrame_lost h]
  · rw [exec_candidateFrame_of_quiet hq ha, searchFrame_begins hg hm h]
  · rw [exec_candidateFrame_of_quiet hq ha, searchFrame_next hg hm (by omega), if_neg (by omega), State.onPlu, hr]
    rfl
  case third =>
    rw [exec_candidateFrame_of_quiet hq ha, searchFrame_third hg hm hr]
    refine ⟨_, rfl, (enterAligned_plu p fr.marker s).trans (align3_eq _ _), fun hl => ?_,
      fun hd => ⟨fun ho hb => ?_, fun h => ?_⟩⟩ <;> rw [enterAligned_plu]
    · rw [enterAligned_losing hl, aligned_self]
    · rw [enterAligned_down hd, linkUpReport_offline (s := s.aligned p fr.marker) ho hb, aligned_self]
    · rw [enterAligned_down hd, linkUpReport_none (s := s.aligned p fr.marker) h, aligned_self]
  case back =>
    obtain ⟨running, third, kept⟩ := third_of_doubted hq ha hg hm hr hp
    refine ⟨_, running, by rw [enterAligned_plu]; rfl, fun hc hh => ?_, fun h => ?_⟩ <;> rw [enterAligned_plu, ← aligned_self]
    · have alone : ((returnToEnrolled p (s.aligned p fr.marker)).sup.get p.peer).judged = false := by
        rw [returnToEnrolled, State.onSup_sup, PerPort.get_set_peer]
        exact hj
      rw [third hc hh, judge_of_not_judged alone]
      rfl
    · exact kept h
  case judged =>
    obtain ⟨running, third, kept⟩ := third_of_doubted hq ha hg hm hr hp
    refine ⟨_, running, by rw [enterAligned_plu]; rfl, fun hc hh => ?_, fun h => ?_⟩ <;> rw [enterAligned_plu, ← aligned_self]
    · rw [third hc hh]
      exact judge_peerJudged p _
    · exact kept h

end Sys2Proof.Machine
end

section
/-! Proofs about a frame judged in ALIGNED (R5, R6, R9, R10, R11). -/

namespace Sys2Proof.Machine

/- Declarations are elaborated one after another, which keeps the check within its memory. -/
set_option Elab.async false

variable {p : Port} {s : State} {fr : Frame} {err : Bool} {h : List Bool}

/-! ### The parts of the judgement, each as one change of the link -/

theorem markerError_eq {u : Plu} (he : err = true ↔ ¬(fr.marker < 8 ∧ u.expected = some fr.marker)) :
    markerError u fr = err := by
  rw [Bool.eq_iff_iff, he]
  simp only [markerError, Bool.not_eq_true', Bool.and_eq_false_iff, decide_eq_false_iff_not, beq_eq_false_iff_ne, ne_eq,
    Classical.not_and_iff_not_or_not]

theorem judgeFrame_eq {u : Plu} (he : err = true ↔ ¬(fr.marker < 8 ∧ u.expected = some fr.marker))
    (hh : h = (u.history ++ [err]).drop (u.history.length + 1 - 16)) :
    judgeFrame fr u = { u with history := h, expected := u.expected.map fun e => (e + 1) % 8 } := by
  have history : pushHistory (markerError u fr) u.history = h := by
    rw [markerError_eq he, pushHistory, hh, List.length_append, List.length_singleton]
  rw [judgeFrame, history]
  rfl

theorem judgeFrame_expected {u : Plu} (he : u.expected = some fr.marker) :
    u.expected.map (fun e => (e + 1) % 8) = some ((fr.marker + 1) % 8) := by rw [he]; rfl

/-- R9: the link once the payload of a frame is dropped. -/
def Plu.dropped (fr : Frame) (u : Plu) : Plu :=
  { u with damaged := satAdd u.damaged (u.rx.unfinished + fr.begun), rx := .seek, cycleWords := none }

theorem dropPayload_eq (p : Port) (fr : Frame) (s : State) : dropPayload p fr s = s.onPlu p (·.dropped fr) := by
  rw [dropPayload, damage, State.onPlu_onPlu]
  exact State.onPlu_congr rfl

/-- R6: the link once it is LOSING, with no message begun. -/
def Plu.losing (tLl : Nat) (u : Plu) : Plu :=
  { u with align := .losing, run := 0, tLl := some tLl, cand := .none, cycleWords := none, rx := .seek }

theorem satAdd_zero {w : Nat} (x : BitVec w) : satAdd x 0 = x := by
  have bound : x.toNat ≤ 2 ^ w - 1 := Nat.le_sub_one_of_lt x.isLt
  rw [satAdd, Nat.add_zero, Nat.min_eq_left bound, BitVec.ofNat_toNat, BitVec.setWidth_eq]

theorem enterLosing_idle (hr : (s.plu.get p).rx = .seek) : enterLosing p s = s.onPlu p (·.losing s.cfg.tLl) := by
  rw [enterLosing, damage, hr, State.onPlu_onPlu]
  refine State.onPlu_congr ?_
  simp only [Rx.unfinished, satAdd_zero, Plu.losing]
  rfl

theorem badFrame_within (ht : min ((s.plu.get p).checkErrors + 1) 80000 ≤ (s.plu.get p).threshold) :
    badFrame p s = s.onPlu p countCheckError := by
  refine if_neg ?_
  rw [State.onPlu_get, Plu.excessive, decide_eq_true_eq]
  exact Nat.not_lt.mpr ht

/-- R11: the link once a bad frame has taken it above its threshold. -/
def Plu.overThreshold (u : Plu) : Plu := { countCheckError u with degraded := true }

theorem badFrame_above (ht : (s.plu.get p).threshold < min ((s.plu.get p).checkErrors + 1) 80000) :
    badFrame p s = raiseIf (!(s.plu.get p).degraded) .linkDegraded (s.onPlu p Plu.overThreshold) := by
  refine (if_pos ?_).trans ?_
  · rw [State.onPlu_get, Plu.excessive, decide_eq_true_eq]
    exact ht
  · rw [setDegraded, State.onPlu_get, State.onPlu_onPlu]
    rfl

/-! ### The judgement as a whole -/

/-- R5 to R14: a frame judged in ALIGNED, before alignment is given up. -/
def State.frameTaken (s : State) (p : Port) (fr : Frame) : State :=
  let t := if fr.good then s.onPlu p (judgeFrame fr) else badFrame p (s.onPlu p (judgeFrame fr))
  if !fr.good || markerError (s.plu.get p) fr then dropPayload p fr t
  else takeWord p fr.marker fr.word (deliverPayload p fr t)

theorem alignedFrameTaken_eq (p : Port) (fr : Frame) (s : State) : alignedFrameTaken p fr s =
    if alignmentLost (s.frameTaken p fr).cfg.criterion (!fr.good) ((s.frameTaken p fr).plu.get p) then
      enterLosing p (s.frameTaken p fr)
    else s.frameTaken p fr := rfl

theorem exec_alignedFrame_of_quiet (hq : Quiet s) (ha : (s.plu.get p).align = .aligned) :
    exec (.alignedFrame p fr) s = .next (alignedFrameTaken p fr s) := by
  have arm : exec (.alignedFrame p fr) s = .next
      (if ((settle s).plu.get p).align = .aligned then alignedFrameTaken p fr (settle s) else settle s) := rfl
  rw [arm, settle_of_quiet hq, if_pos ha]

theorem frameTaken_error (hg : fr.good = true) (he : markerError (s.plu.get p) fr = true) :
    s.frameTaken p fr = s.onPlu p fun u => (judgeFrame fr u).dropped fr := by
  rw [State.frameTaken, hg, he, dropPayload_eq]
  exact State.onPlu_onPlu ..

theorem frameTaken_bad (hg : fr.good = false) :
    s.frameTaken p fr = (badFrame p (s.onPlu p (judgeFrame fr))).onPlu p (·.dropped fr) := by
  rw [State.frameTaken, hg, ← dropPayload_eq]
  rfl

theorem frameTaken_within (hg : fr.good = false)
    (ht : min ((s.plu.get p).checkErrors + 1) 80000 ≤ (s.plu.get p).threshold) :
    s.frameTaken p fr = s.onPlu p fun u => (countCheckError (judgeFrame fr u)).dropped fr := by
  rw [frameTaken_bad hg, badFrame_within (by rw [State.onPlu_get]; exact ht), State.onPlu_onPlu, State.onPlu_onPlu]

theorem frameTaken_above (hg : fr.good = false)
    (ht : (s.plu.get p).threshold < min ((s.plu.get p).checkErrors + 1) 80000) :
    s.frameTaken p fr = raiseIf (!(s.plu.get p).degraded) .linkDegraded
      (s.onPlu p fun u => (judgeFrame fr u).overThreshold.dropped fr) := by
  rw [frameTaken_bad hg, badFrame_above (by rw [State.onPlu_get]; exact ht), raiseIf_onPlu, State.onPlu_get,
    State.onPlu_onPlu, State.onPlu_onPlu]
  rfl

/-! ### The overhead word of a frame that ends no cycle -/

theorem gatherWord_short {pos : Nat} {w : Word} {ws : Option (List Word)} {l : List Word} (hp : pos < 7)
    (hl : gatherWord pos w ws = some l) : l.length ≠ 8 := by
  unfold gatherWord at hl
  split at hl
  · cases hl
    simp
  · cases ws with
    | none => simp at hl
    | some l' =>
      simp only [Option.ite_none_right_eq_some, Option.some.injEq] at hl
      obtain ⟨len, rfl⟩ := hl
      rw [List.length_append, List.length_singleton]
      omega

theorem takeWord_short {pos : Nat} {w : Word} (hp : pos < 7) : takeWord p pos w s =
    s.onPlu p fun u => { u with cycleWords := gatherWord pos w u.cycleWords } := by
  unfold takeWord
  cases hl : gatherWord pos w (s.plu.get p).cycleWords with
  | none => exact State.onPlu_congr (by rw [hl])
  | some l =>
    dsimp only
    rw [if_neg (gatherWord_short hp hl)]
    exact State.onPlu_congr (by rw [hl])

/-- R8: a frame in which no message goes on and none begins. -/
theorem deliverPayload_empty (hr : (s.plu.get p).rx = .seek) (hf : fr.firstStart = none) : deliverPayload p fr s = s := by
  have nothing : parseFrame (s.plu.get p).rx fr = ([], .seek) := by
    rw [hr, parseFrame, parseNew, hf]
  rw [deliverPayload, nothing]
  exact State.onPlu_of_eq (by rw [← hr])

theorem frameTaken_clean (hg : fr.good = true) (he : markerError (s.plu.get p) fr = false) : s.frameTaken p fr =
    takeWord p fr.marker fr.word (deliverPayload p fr (s.onPlu p (judgeFrame fr))) := by
  rw [State.frameTaken, hg, he]
  rfl

/-- R6, R11: alignment is kept or given up by the history, and by RESEARCH at a bad frame above the threshold. -/
theorem alignmentLost_iff {c : Criterion} {bad : Bool} {u : Plu} : alignmentLost c bad u = true ↔
    criterionMet c u.history = true ∨ bad = true ∧ u.action = .research ∧ u.threshold < u.checkErrors := by
  simp [alignmentLost, Plu.excessive, and_assoc]

theorem alignedFrameTaken_kept {t : State} (hf : s.frameTaken p fr = t)
    (hl : ¬ alignmentLost t.cfg.criterion (!fr.good) (t.plu.get p) = true) : alignedFrameTaken p fr s = t := by
  rw [alignedFrameTaken_eq, hf]
  exact if_neg hl

theorem alignedFrameTaken_lost {t : State} (hf : s.frameTaken p fr = t) (hr : (t.plu.get p).rx = .seek)
    (hl : alignmentLost t.cfg.criterion (!fr.good) (t.plu.get p) = true) :
    alignedFrameTaken p fr s = t.onPlu p (·.losing t.cfg.tLl) := by
  rw [alignedFrameTaken_eq, hf]
  exact (if_pos hl).trans (enterLosing_idle hr)

theorem raiseIf_cfg (c : Bool) (e : Event) (s : State) : (raiseIf c e s).cfg = s.cfg := by
  cases c <;> rfl

theorem clean_of_expected {u : Plu} (he : err = true ↔ ¬(fr.marker < 8 ∧ u.expected = some fr.marker))
    (hn : err = false) : fr.marker < 8 ∧ u.expected = some fr.marker := by
  rw [hn] at he
  simpa using he

/-- Settles O7: the frame is recorded, the payload taken or dropped, and alignment kept or given up. -/
theorem alignedFrameJudged : Obligations.AlignedFrameJudged := by
  refine ⟨fun p fr s err h hq ha he hh hc => ⟨fun hg hn hf hr hm => ?clean, fun hg hm => ?error, fun hg ht => ?within⟩,
    fun p fr s err h hq ha he hh => ⟨fun hg hm hc => ?lost, fun hg ht => ⟨fun hact => ?research, fun hact hc => ?report⟩⟩⟩ <;>
    rw [exec_alignedFrame_of_quiet hq ha]
  case clean =>
    obtain ⟨small, expected⟩ := clean_of_expected he hn
    have taken : s.frameTaken p fr = s.onPlu p fun u => { judgeFrame fr u with
        cycleWords := gatherWord fr.marker fr.word u.cycleWords } := by
      rw [frameTaken_clean hg ((markerError_eq he).trans hn), deliverPayload_empty (by rw [State.onPlu_get]; exact hr) hf,
        takeWord_short (by omega), State.onPlu_onPlu]
      rfl
    rw [alignedFrameTaken_kept taken]
    · refine congrArg _ (State.onPlu_congr ?_)
      rw [judgeFrame_eq he hh, judgeFrame_expected expected]
    · rw [State.onPlu_get, judgeFrame_eq he hh, alignmentLost_iff, hg]
      rintro (met | ⟨bad, -⟩)
      · exact Bool.false_ne_true (hc.symm.trans met)
      · exact absurd bad (by decide)
  case error =>
    rw [alignedFrameTaken_kept (frameTaken_error hg ((markerError_eq he).trans hm))]
    · refine congrArg _ (State.onPlu_congr ?_)
      rw [judgeFrame_eq he hh]
      rfl
    · rw [State.onPlu_get, judgeFrame_eq he hh, alignmentLost_iff, hg]
      rintro (met | ⟨bad, -⟩)
      · exact Bool.false_ne_true (hc.symm.trans met)
      · exact absurd bad (by decide)
  case within =>
    rw [alignedFrameTaken_kept (frameTaken_within hg ht)]
    · refine congrArg _ (State.onPlu_congr ?_)
      rw [judgeFrame_eq he hh]
      rfl
    · rw [State.onPlu_get, judgeFrame_eq he hh, alignmentLost_iff]
      rintro (met | ⟨-, -, above⟩)
      · exact Bool.false_ne_true (hc.symm.trans met)
      · exact absurd above (Nat.not_lt.mpr ht)
  case lost =>
    rw [alignedFrameTaken_lost (frameTaken_error hg ((markerError_eq he).trans hm))]
    · rw [State.onPlu_onPlu]
      refine congrArg _ (State.onPlu_congr ?_)
      rw [judgeFrame_eq he hh]
      rfl
    · rw [State.onPlu_get]
      rfl
    · rw [State.onPlu_get, judgeFrame_eq he hh, alignmentLost_iff]
      exact .inl hc
  case research =>
    rw [alignedFrameTaken_lost (frameTaken_above hg ht), raiseIf_cfg, raiseIf_onPlu, State.onPlu_onPlu]
    · refine congrArg _ (congrArg _ (State.onPlu_congr ?_))
      rw [judgeFrame_eq he hh]
      rfl
    · rw [raiseIf_plu, State.onPlu_get]
      rfl
    · rw [raiseIf_plu, State.onPlu_get, judgeFrame_eq he hh, alignmentLost_iff, hg]
      exact .inr ⟨rfl, hact, ht⟩
  case report =>
    rw [alignedFrameTaken_kept (frameTaken_above hg ht)]
    · refine congrArg _ (congrArg _ (State.onPlu_congr ?_))
      rw [judgeFrame_eq he hh]
      rfl
    · rw [raiseIf_plu, State.onPlu_get, judgeFrame_eq he hh, alignmentLost_iff, raiseIf_cfg]
      rintro (met | ⟨-, research, -⟩)
      · exact Bool.false_ne_true (hc.symm.trans met)
      · exact absurd (hact.symm.trans research) (by decide)

end Sys2Proof.Machine
end

section
/-! Proofs about settled changes and their reports (R13, R14, R131, R132, R133, R135). -/

namespace Sys2Proof.Machine

/- Declarations are elaborated one after another, which keeps the check within its memory. -/
set_option Elab.async false

variable {p q : Port} {s t : State} {cause : FenceCause} {before after : Settled}

/-! ### What a report leaves of the frame's own judgement -/

/-- The settings and the error history of a port are as they were. -/
def HistoryKept (p : Port) (s t : State) : Prop := t.cfg = s.cfg ∧ (t.plu.get p).history = (s.plu.get p).history

theorem HistoryKept.refl (p : Port) (s : State) : HistoryKept p s s := ⟨rfl, rfl⟩

theorem HistoryKept.trans {r : State} (h : HistoryKept p s t) (h' : HistoryKept p t r) : HistoryKept p s r :=
  ⟨h'.1.trans h.1, h'.2.trans h.2⟩

theorem handOver_history (m : OutMsg) (u : Plu) : (u.handOver m).history = u.history := by
  unfold Plu.handOver
  split <;> rfl

theorem answerAll_history (st : CompStatus) (qs : List QueueRecord) (u : Plu) : (u.answerAll st qs).history = u.history :=
  foldl_keeps (fun v : Plu => v.history = u.history) _ (fun v _ h => (handOver_history _ v).trans h) qs u rfl

theorem whenUp_history {f : Plu → Plu} (hf : ∀ u, (f u).history = u.history) (u : Plu) :
    (u.whenUp f).history = u.history := by
  unfold Plu.whenUp
  split
  · rfl
  · exact hf u

theorem fencePort_historyKept (q : Port) (cause : FenceCause) (s : State) : HistoryKept p s (fencePort q cause s) := by
  by_cases fenced : s.port q = .fenced
  · rw [fencePort_fenced fenced]
    exact .refl p s
  by_cases starting : s.ic.bridge = .starting
  · rw [fencePort_starting starting]
    exact .refl p s
  rw [fencePort_eq fenced starting]
  refine ⟨rfl, ?_⟩
  by_cases same : p = q
  · subst same
    dsimp only
    rw [PerPort.get_set_self]
    exact whenUp_history (fun u => (handOver_history _ _).trans (answerAll_history _ _ u)) _
  · dsimp only
    rw [PerPort.get_set_of_ne _ _ same]

theorem judge_historyKept (q : Port) (s : State) : HistoryKept p s (judge q s) := by
  unfold judge
  split
  · split
    · exact ⟨rfl, rfl⟩
    all_goals
      split
      · exact fencePort_historyKept q .liveness s
      · exact ⟨rfl, rfl⟩
  · exact .refl p s

/-! ### The report in closed form -/

/-- R131: the state after a settled change that fences nothing, before the peer is judged. -/
def State.reportTaken (s : State) (p : Port) (before after : Settled) : State :=
  if causeClears (s.linkUp p) (s.sup.get p) before after then returnToEnrolled p s
  else if stallClears before after then clearStall p s else s

theorem returnToEnrolled_clearStall (p : Port) (s : State) :
    returnToEnrolled p (clearStall p s) = returnToEnrolled p s := by
  simp [returnToEnrolled, clearStall, State.onSup]

/-- R133, R134: the port is one that a judgement decides. -/
def State.judgementDue (s : State) (q : Port) : Prop :=
  s.port q.peer = .enrolled ∧ (s.port q = .held ∨ (s.port q = .suspect ∧ (s.sup.get q).confirmed = true))

theorem judge_cases (q : Port) (s : State) : (¬ s.judgementDue q → judge q s = s) ∧ (s.judgementDue q →
    (s.viewOf q = .seen → judge q s = setPort q .held s) ∧
    (s.viewOf q ≠ .seen → s.cfg.autoTakeover = false → judge q s = setPort q .suspect s) ∧
    (s.viewOf q ≠ .seen → s.cfg.autoTakeover = true → judge q s = fencePort q .liveness s)) := by
  have judged := judge_peerJudged q.peer s
  rw [PeerJudged, Port.peer_peer] at judged
  exact ⟨fun h => judged.1 (Classical.not_and_iff_not_or_not.mp h), fun h => judged.2 h.1 h.2⟩

theorem fencePort_port (hb : s.ic.bridge ≠ .starting) : (fencePort p cause s).port p = .fenced := by
  by_cases fenced : s.port p = .fenced
  · rw [fencePort_fenced fenced, fenced]
  · rw [fencePort_eq fenced hb, State.port, PerPort.get_set_self]
    rfl

theorem setPort_port (q : Port) (st : PortState) (s : State) : (setPort q st s).port q = st := by
  rw [setPort, State.port, State.onSup_sup, PerPort.get_set_self]

theorem setPort_port_peer (q : Port) (st : PortState) (s : State) : (setPort q st s).port q.peer = s.port q.peer := by
  rw [setPort, State.port, State.onSup_sup, PerPort.get_set_peer]
  rfl

/-- R133: a second judgement of the same port changes nothing. -/
theorem judge_judge (q : Port) (s : State) : judge q (judge q s) = judge q s := by
  by_cases due : s.judgementDue q
  · obtain ⟨seen, suspect, fence⟩ := (judge_cases q s).2 due
    by_cases view : s.viewOf q = .seen
    · have again : (setPort q .held s).judgementDue q :=
        ⟨(setPort_port_peer q .held s).trans due.1, .inl (setPort_port q .held s)⟩
      rw [seen view, ((judge_cases q (setPort q .held s)).2 again).1 view, setPort_self (setPort_port q .held s)]
    cases auto : s.cfg.autoTakeover with
    | false =>
      rw [suspect view auto]
      by_cases again : (setPort q .suspect s).judgementDue q
      · rw [((judge_cases q (setPort q .suspect s)).2 again).2.1 view auto, setPort_self (setPort_port q .suspect s)]
      · exact (judge_cases q (setPort q .suspect s)).1 again
    | true =>
      by_cases starting : s.ic.bridge = .starting
      · have same : judge q s = s := (fence view auto).trans (fencePort_starting starting)
        rw [same, same]
      · rw [fence view auto]
        refine (judge_cases q _).1 fun again => ?_
        rcases again.2 with held | ⟨suspected, -⟩
        · exact absurd (held.symm.trans (fencePort_port starting)) (by decide)
        · exact absurd (suspected.symm.trans (fencePort_port starting)) (by decide)
  · have same : judge q s = s := (judge_cases q s).1 due
    rw [same, same]

theorem ownReport_calm (h : (if (s.port p).fencedAtOnce then immediateCause (s.sup.get p).identity before after else none) = none) :
    ownReport p before after s =
      if causeClears (s.linkUp p) (s.sup.get p) before after then judge p.peer (s.reportTaken p before after)
      else s.reportTaken p before after := by
  rw [ownReport, h]
  dsimp only
  have test : (if stallClears before after = true then clearStall p s else s).linkUp p = s.linkUp p := by
    split <;> rfl
  have states : causeClears (s.linkUp p) ((if stallClears before after = true then clearStall p s else s).sup.get p) before
      after = causeClears (s.linkUp p) (s.sup.get p) before after := by
    split
    · rw [clearStall_eq, PerPort.get_set_self]
      rfl
    · rfl
  rw [test, states, State.reportTaken]
  split
  · rw [clearCause, apply_ite (returnToEnrolled p), returnToEnrolled_clearStall, ite_self]
  · rfl

theorem settledReport_calm (h : (if (s.port p).fencedAtOnce then immediateCause (s.sup.get p).identity before after else none) = none) :
    settledReport p before after s =
      if causeClears (s.linkUp p) (s.sup.get p) before after ∨ after.view ≠ before.view then
        judge p.peer (s.reportTaken p before after)
      else s.reportTaken p before after := by
  rw [settledReport, ownReport_calm h]
  cases causeClears (s.linkUp p) (s.sup.get p) before after <;> by_cases view : after.view = before.view <;>
    simp [view, judge_judge]

theorem settledReport_fences (h : (s.port p).fencedAtOnce = true)
    (hc : immediateCause (s.sup.get p).identity before after = some cause) (hb : s.ic.bridge ≠ .starting) :
    settledReport p before after s = fencePort p cause s := by
  have own : ownReport p before after s = fencePort p cause s := by rw [ownReport, if_pos h, hc]
  have absent : (fencePort p cause s).port p.peer.peer ≠ .enrolled := by
    rw [Port.peer_peer, fencePort_port hb]
    decide
  rw [settledReport, own, judge_of_peer_absent absent]
  exact ite_self _

theorem settledReport_historyKept (p : Port) (before after : Settled) (s : State) :
    HistoryKept p s (settledReport p before after s) := by
  cases h : (if (s.port p).fencedAtOnce then immediateCause (s.sup.get p).identity before after else none) with
  | none =>
    have taken : HistoryKept p s (s.reportTaken p before after) := by
      unfold State.reportTaken
      split
      · exact ⟨rfl, rfl⟩
      · split <;> exact ⟨rfl, rfl⟩
    rw [settledReport_calm h]
    split
    · exact taken.trans (judge_historyKept ..)
    · exact taken
  | some c =>
    have own : ownReport p before after s = fencePort p c s := by rw [ownReport, h]
    rw [settledReport, own]
    split
    · exact (fencePort_historyKept p c s).trans (judge_historyKept ..)
    · exact fencePort_historyKept p c s

end Sys2Proof.Machine
end

section
/-! The end of a complete cycle: settling and its report (R13, R14, R35, R135). -/

namespace Sys2Proof.Machine

/- Declarations are elaborated one after another, which keeps the check within its memory. -/
set_option Elab.async false

variable {p : Port} {s : State} {fr : Frame} {before after : Settled} {recorded : Word} {cause : FenceCause}

/-! ### One field -/

section Field

variable {α : Type} [DecidableEq α] {need n : Nat} {settled x y : α} {c : Option (Candidate α)}

theorem settleField_none : settleField need settled c none = (settled, none) := rfl

theorem settleField_same : settleField need settled c (some settled) = (settled, none) := if_pos rfl

theorem settleField_settles (hx : x ≠ settled) (hn : need ≤ n + 1) :
    settleField need settled (some ⟨x, n⟩) (some x) = (x, none) := by
  rw [settleField]
  simp only [if_neg hx, if_true, if_pos hn]

theorem settleField_counts (hx : x ≠ settled) (hn : n + 1 < need) :
    settleField need settled (some ⟨x, n⟩) (some x) = (settled, some ⟨x, n + 1⟩) := by
  rw [settleField]
  simp only [if_neg hx, if_true, if_neg (Nat.not_le.mpr hn)]

theorem settleField_restarts (hx : x ≠ settled) (hy : y ≠ x) :
    settleField need settled (some ⟨y, n⟩) (some x) = (settled, some ⟨x, 1⟩) := by
  rw [settleField]
  simp only [if_neg hx, if_neg hy]

theorem settleField_begins (hx : x ≠ settled) : settleField need settled none (some x) = (settled, some ⟨x, 1⟩) := by
  rw [settleField]
  simp only [if_neg hx]

end Field

/-! ### Immediate causes -/

theorem fencedAtOnce_iff {st : PortState} :
    st.fencedAtOnce = true ↔ st = .enrolled ∨ st = .suspect ∨ st = .held ∨ st = .parking := by
  cases st <;> simp [PortState.fencedAtOnce]

theorem immediateCause_eq (recorded : Word) (before after : Settled) : immediateCause recorded before after =
    if after.identity ≠ before.identity ∧ after.identity ≠ recorded then some .identity
    else if (before.health = .running ∨ before.health = .leaving) ∧ after.health = .starting then some .restart
    else if before.health ≠ .faulted ∧ after.health = .faulted then some .self
    else none := by
  simp [immediateCause]

theorem immediateCause_some
    (h : (cause = .identity ∧ after.identity ≠ before.identity ∧ after.identity ≠ recorded) ∨
      ((after.identity = before.identity ∨ after.identity = recorded) ∧
        ((cause = .restart ∧ (before.health = .running ∨ before.health = .leaving) ∧ after.health = .starting) ∨
          (cause = .self ∧ before.health ≠ .faulted ∧ after.health = .faulted)))) :
    immediateCause recorded before after = some cause := by
  rw [immediateCause_eq]
  rcases h with ⟨rfl, changed⟩ | ⟨same, ⟨rfl, restart⟩ | ⟨rfl, fault⟩⟩
  · rw [if_pos changed]
  · rw [if_neg (by grind), if_pos restart]
  · rw [if_neg (by grind), if_neg (by simp [fault.2]), if_pos fault]

theorem immediateCause_none (hi : after.identity = before.identity ∨ after.identity = recorded)
    (hr : ¬((before.health = .running ∨ before.health = .leaving) ∧ after.health = .starting))
    (hf : ¬(before.health ≠ .faulted ∧ after.health = .faulted)) : immediateCause recorded before after = none := by
  rw [immediateCause_eq, if_neg (by grind), if_neg hr, if_neg hf]

theorem causeClears_iff {up : Bool} {u : Supervisor} : causeClears up u before after = true ↔
    (u.state = .suspect ∨ u.state = .held) ∧ ((u.cause = .stall ∧ after.pulse ≠ before.pulse) ∨
      (u.cause = .link ∧ up = true ∧ after.health ≠ before.health ∧ after.health = .running)) := by
  simp [causeClears, and_assoc]

theorem stallClears_iff : stallClears before after = true ↔
    after.pulse ≠ before.pulse ∨ (after.health ≠ before.health ∧ after.health = .leaving) := by
  simp [stallClears]

/-! ### The eighth word -/

/-- R14: the link once a complete cycle has settled. -/
theorem settleCycle_eq {need : Nat} {u : Plu} {w0 w1 w2 w3 w4 w5 w6 w7 : Word} {x : Settled} {cs : Candidates}
    (hi : (x.identity, cs.identity) = settleField need u.settled.identity u.cand.identity (some w0))
    (hh : (x.health, cs.health) = settleField need u.settled.health u.cand.health (healthOfCode (w1.setWidth 8)))
    (hv : (x.view, cs.view) = settleField need u.settled.view u.cand.view (viewOfCode ((w1 >>> 8).setWidth 8)))
    (hp : (x.pulse, cs.pulse) = settleField need u.settled.pulse u.cand.pulse (some (w2.setWidth 8))) :
    settleCycle need [w0, w1, w2, w3, w4, w5, w6, w7] u = { u with settled := x, cand := cs } := by
  have cycle : settleCycle need [w0, w1, w2, w3, w4, w5, w6, w7] u = { u with
      settled := ⟨(settleField need u.settled.identity u.cand.identity (some w0)).1,
        (settleField need u.settled.health u.cand.health (healthOfCode (w1.setWidth 8))).1,
        (settleField need u.settled.pulse u.cand.pulse (some (w2.setWidth 8))).1,
        (settleField need u.settled.view u.cand.view (viewOfCode ((w1 >>> 8).setWidth 8))).1⟩
      cand := ⟨(settleField need u.settled.identity u.cand.identity (some w0)).2,
        (settleField need u.settled.health u.cand.health (healthOfCode (w1.setWidth 8))).2,
        (settleField need u.settled.pulse u.cand.pulse (some (w2.setWidth 8))).2,
        (settleField need u.settled.view u.cand.view (viewOfCode ((w1 >>> 8).setWidth 8))).2⟩ } := rfl
  rw [cycle, ← hi, ← hh, ← hv, ← hp]

/-- What the report of a settled change comes to. -/
def State.settledTo (v : State) (p : Port) (old x : Settled) : State := if x = old then v else settledReport p old x v

theorem takeWord_last {ws l : List Word} {w : Word} {t : State} (hw : (s.plu.get p).cycleWords = some ws)
    (hl : ws.length = 7) (he : ws ++ [w] = l)
    (ht : s.onPlu p (fun u => { settleCycle s.cfg.settleCount l u with cycleWords := none }) = t) :
    takeWord p 7 w s = t.settledTo p (s.plu.get p).settled (t.plu.get p).settled := by
  have complete : gatherWord 7 w (s.plu.get p).cycleWords = some l := by
    rw [hw, gatherWord, if_neg (by decide), ← he]
    exact if_pos hl
  have eight : l.length = 8 := by rw [← he, List.length_append, hl]; rfl
  rw [takeWord, complete, ← ht]
  exact if_pos eight

theorem settledTo_historyKept (p : Port) (old x : Settled) (v : State) : HistoryKept p v (v.settledTo p old x) := by
  unfold State.settledTo
  split
  · exact .refl p v
  · exact settledReport_historyKept p old x v

theorem settledTo_fences {v : State} {old x : Settled} (hp : (v.port p).fencedAtOnce = true)
    (hc : immediateCause (v.sup.get p).identity old x = some cause) (hb : v.ic.bridge ≠ .starting) :
    v.settledTo p old x = fencePort p cause v := by
  have changed : x ≠ old := by
    rintro rfl
    have nothing : immediateCause (v.sup.get p).identity x x = none := by
      refine immediateCause_none (.inl rfl) ?_ fun h => h.1 h.2
      rintro ⟨running | leaving, starting⟩
      · exact absurd (running.symm.trans starting) (by decide)
      · exact absurd (leaving.symm.trans starting) (by decide)
    exact absurd (nothing.symm.trans hc) (by simp)
  rw [State.settledTo, if_neg changed, settledReport_fences hp hc hb]

theorem settledTo_calm {v : State} {old x : Settled}
    (h : (if (v.port p).fencedAtOnce then immediateCause (v.sup.get p).identity old x else none) = none) :
    v.settledTo p old x =
      if causeClears (v.linkUp p) (v.sup.get p) old x ∨ x.view ≠ old.view then judge p.peer (v.reportTaken p old x)
      else v.reportTaken p old x := by
  by_cases same : x = old
  · subst same
    have clears : ¬ causeClears (v.linkUp p) (v.sup.get p) x x = true := by simp [causeClears_iff]
    have stall : ¬ stallClears x x = true := by simp [stallClears_iff]
    rw [State.settledTo, if_pos rfl, if_neg (by simp [clears]), State.reportTaken, if_neg clears, if_neg stall]
  · rw [State.settledTo, if_neg same, settledReport_calm h]

theorem reportTaken_kept (p : Port) (before after : Settled) (v : State) :
    (v.reportTaken p before after).sup.get p.peer = v.sup.get p.peer ∧ (v.reportTaken p before after).plu.get p = v.plu.get p ∧
      (v.reportTaken p before after).cfg = v.cfg := by
  unfold State.reportTaken
  split
  · exact ⟨PerPort.get_set_peer .., rfl, rfl⟩
  · split
    · exact ⟨PerPort.get_set_peer .., rfl, rfl⟩
    · exact ⟨rfl, rfl, rfl⟩

/-- R13, R14: a frame that ends a complete cycle and carries no message. -/
theorem frameTaken_cycleEnd {h : List Bool} {w0 w1 w2 w3 w4 w5 w6 : Word} {x : Settled} {cs : Candidates}
    (he : (s.plu.get p).expected = some 7) (hm : fr.marker = 7) (hg : fr.good = true) (hf : fr.firstStart = none)
    (hr : (s.plu.get p).rx = .seek) (hw : (s.plu.get p).cycleWords = some [w0, w1, w2, w3, w4, w5, w6])
    (hh : h = ((s.plu.get p).history ++ [false]).drop ((s.plu.get p).history.length + 1 - 16))
    (hcycle : settleCycle s.cfg.settleCount [w0, w1, w2, w3, w4, w5, w6, fr.word] (judgeFrame fr (s.plu.get p)) =
      { judgeFrame fr (s.plu.get p) with settled := x, cand := cs }) :
    s.frameTaken p fr = (s.onPlu p fun u =>
      { u with history := h, expected := some 0, cycleWords := none, settled := x, cand := cs }).settledTo p
        (s.plu.get p).settled x := by
  have clean : false = true ↔ ¬(fr.marker < 8 ∧ (s.plu.get p).expected = some fr.marker) := by simp [hm, he]
  have judged := judgeFrame_eq clean hh
  have words : ((s.onPlu p (judgeFrame fr)).plu.get p).cycleWords = some [w0, w1, w2, w3, w4, w5, w6] := by
    rw [State.onPlu_get, judged, hw]
  have settled : (s.onPlu p (judgeFrame fr)).onPlu p (fun u =>
      { settleCycle s.cfg.settleCount [w0, w1, w2, w3, w4, w5, w6, fr.word] u with cycleWords := none }) =
      s.onPlu p fun u => { u with history := h, expected := some 0, cycleWords := none, settled := x, cand := cs } := by
    rw [State.onPlu_onPlu]
    refine State.onPlu_congr ?_
    rw [hcycle, judged, he]
    rfl
  rw [frameTaken_clean hg (markerError_eq clean), deliverPayload_empty (by rw [State.onPlu_get]; exact hr) hf, hm,
    takeWord_last (l := [w0, w1, w2, w3, w4, w5, w6, fr.word]) words rfl rfl settled, State.onPlu_get, State.onPlu_get, judged]

/-- Settles O9: the four fields, and then the report of a settled change by its causes. -/
theorem fieldSettles : Obligations.FieldSettles := by
  refine ⟨fun α _ need settled x y c n => ⟨settleField_none, settleField_same, settleField_settles, settleField_counts,
    settleField_restarts, settleField_begins⟩, ?_⟩
  intro p fr s v h w0 w1 w2 w3 w4 w5 w6 old x cs hq ha he hm hg hf hr hw hh hc hold hi hhe hvi hpu hv
  have clean : false = true ↔ ¬(fr.marker < 8 ∧ (s.plu.get p).expected = some fr.marker) := by simp [hm, he]
  subst hold
  have cycle : settleCycle s.cfg.settleCount [w0, w1, w2, w3, w4, w5, w6, fr.word] (judgeFrame fr (s.plu.get p)) =
      { judgeFrame fr (s.plu.get p) with settled := x, cand := cs } := by
    rw [judgeFrame_eq clean hh]
    exact settleCycle_eq hi hhe hvi hpu
  have taken : s.frameTaken p fr = v.settledTo p (s.plu.get p).settled x := by
    rw [frameTaken_cycleEnd he hm hg hf hr hw hh cycle, hv]
  obtain ⟨cfg, history⟩ := settledTo_historyKept p (s.plu.get p).settled x v
  have kept : alignedFrameTaken p fr s = v.settledTo p (s.plu.get p).settled x := by
    refine alignedFrameTaken_kept taken ?_
    rw [alignmentLost_iff, cfg, history, hg, hv, State.onPlu_get]
    rintro (met | ⟨bad, -⟩)
    · exact Bool.false_ne_true (hc.symm.trans met)
    · exact absurd bad (by decide)
  have up : v.linkUp p = true := by
    rw [linkUp_iff, hv, State.onPlu_get]
    simp [ha]
  have sup : v.sup = s.sup := by rw [hv]; rfl
  have state : v.port p = s.port p := by rw [State.port, sup]; rfl
  refine ⟨_, exec_alignedFrame_of_quiet hq ha, fun same => ?_, fun cause hp hb hcause => ?_,
    fun w clears hcalm hclears hwdef => ?_⟩ <;> rw [kept]
  · exact if_pos same
  · refine settledTo_fences ?_ ?_ (by rw [hv]; exact hb)
    · rw [state]
      exact fencedAtOnce_iff.mpr hp
    · rw [sup]
      exact immediateCause_some hcause
  · have clearing : causeClears (v.linkUp p) (v.sup.get p) (s.plu.get p).settled x = clears := by
      rw [Bool.eq_iff_iff, causeClears_iff, hclears, up, sup]
      simp [State.port]
    have result : w = v.reportTaken p (s.plu.get p).settled x := by
      rw [hwdef, State.reportTaken, clearing]
      simp only [stallClears_iff]
      rfl
    obtain ⟨peer, link, settings⟩ := reportTaken_kept p (s.plu.get p).settled x v
    rw [← result] at peer link settings
    have calm : (if (v.port p).fencedAtOnce then immediateCause (v.sup.get p).identity (s.plu.get p).settled x
        else none) = none := by
      rw [state, sup]
      rcases hcalm with away | ⟨same, restart, fault⟩
      · exact if_neg fun h => by
          rcases fencedAtOnce_iff.mp h with h | h | h | h
          · exact away.1 h
          · exact away.2.1 h
          · exact away.2.2.1 h
          · exact away.2.2.2 h
      · rw [immediateCause_none same restart fault, ite_self]
    have view : (w.plu.get p).settled.view = x.view := by rw [link, hv, State.onPlu_get]
    have auto : w.cfg.autoTakeover = s.cfg.autoTakeover := by rw [settings, hv]; rfl
    have judged := judge_peerJudged p w
    rw [PeerJudged, State.port, State.port, peer, sup, view, auto] at judged
    rw [settledTo_calm calm, clearing, ← result]
    refine ⟨fun h => ?_, fun hp hj hc => ?_⟩
    · by_cases tested : clears = true ∨ x.view ≠ (s.plu.get p).settled.view
      · rw [if_pos tested]
        refine judged.1 (h.elim .inl fun h => h.elim .inr fun h => ?_)
        exact absurd tested (by simp [h.1, h.2])
      · exact if_neg tested
    · rw [if_pos hc]
      exact judged.2 hp hj

end Sys2Proof.Machine
end

section
/-! Proofs about the configuration record (R182, R184). -/

namespace Sys2Proof.Machine

/- Declarations are elaborated one after another, which keeps the check within its memory. -/
set_option Elab.async false

variable {lo hi v step w n : Nat} {r : RawConfig} {x : Settings}

/-! ### Numbers and steps -/

theorem clampTo_eq (h : lo ≤ hi) (v : Nat) : clampTo lo hi v = max lo (min hi v) := by
  unfold clampTo
  split
  · omega
  · split <;> omega

theorem clampTo_ge (h : lo ≤ hi) (v : Nat) : lo ≤ clampTo lo hi v := by
  rw [clampTo_eq h]
  omega

theorem clampTo_le (h : lo ≤ hi) (v : Nat) : clampTo lo hi v ≤ hi := by
  rw [clampTo_eq h]
  omega

theorem clampTo_eq_self_iff (h : lo ≤ hi) : clampTo lo hi v = v ↔ lo ≤ v ∧ v ≤ hi := by
  rw [clampTo_eq h]
  omega

theorem stepDown_eq (step v : Nat) : stepDown step v = v / step * step := by
  rw [stepDown]
  have := Nat.div_add_mod' v step
  omega

/-- A number that is clamped to limits on its step and then lowered to the step is in range and on the step. -/
theorem stepDown_clampTo_mem (h : lo ≤ hi) (hl : lo % step = 0) (v : Nat) :
    lo ≤ stepDown step (clampTo lo hi v) ∧ stepDown step (clampTo lo hi v) ≤ hi ∧
      stepDown step (clampTo lo hi v) % step = 0 := by
  have low := clampTo_ge h v
  have high := clampTo_le h v
  rw [stepDown_eq]
  refine ⟨?_, Nat.le_trans (Nat.div_mul_le_self ..) high, Nat.mul_mod_left ..⟩
  calc lo = lo / step * step := (Nat.div_mul_cancel (Nat.dvd_of_mod_eq_zero hl)).symm
    _ ≤ clampTo lo hi v / step * step := Nat.mul_le_mul_right _ (Nat.div_le_div_right low)

theorem stepDown_clampTo_of_mem (hl : lo ≤ v) (hh : v ≤ hi) : stepDown step (clampTo lo hi v) = v / step * step := by
  rw [(clampTo_eq_self_iff (Nat.le_trans hl hh)).mpr ⟨hl, hh⟩, stepDown_eq]

theorem stepDown_clampTo_eq_self_iff (h : lo ≤ hi) (hl : lo % step = 0) :
    stepDown step (clampTo lo hi v) = v ↔ lo ≤ v ∧ v ≤ hi ∧ v % step = 0 := by
  constructor
  · intro same
    rw [← same]
    exact stepDown_clampTo_mem h hl v
  · rintro ⟨low, high, whole⟩
    rw [stepDown_clampTo_of_mem low high, Nat.div_mul_cancel (Nat.dvd_of_mod_eq_zero whole)]

theorem ofNat_eq_iff {b : BitVec w} (h : n < 2 ^ w) : BitVec.ofNat w n = b ↔ n = b.toNat := by
  rw [← BitVec.toNat_inj, BitVec.toNat_ofNat, Nat.mod_eq_of_lt h]

/-! ### The record in bytes -/

theorem byteAt_cons_zero (b : Byte) (bs : List Byte) : byteAt (b :: bs) 0 = b := by
  simp [byteAt, fieldAt, leNat]

theorem configBytes_length (r : RawConfig) : (configBytes r).length = 30 := by
  simp [configBytes]

theorem wordOfBytes (x : Word) : BitVec.ofNat 16 (leNat [x.setWidth 8, BitVec.ofNat 8 (x.toNat / 256)]) = x := by
  have bytes : leBytes 2 x.toNat = [x.setWidth 8, BitVec.ofNat 8 (x.toNat / 256)] := by simp [leBytes]
  rw [← bytes, leNat_leBytes 2 x.toNat x.isLt, BitVec.ofNat_toNat, BitVec.setWidth_eq]

theorem byteOfBytes (x : Byte) : BitVec.ofNat 8 (leNat [x]) = x := by
  simp [leNat]

theorem configOfBytes_configBytes (r : RawConfig) : configOfBytes (configBytes r) = r := by
  simp [configOfBytes, configBytes, byteAt, wordAt, fieldAt, leBytes, wordOfBytes, byteOfBytes]

/-! ### The settings of a record -/

theorem guarantees_fit (gA gB w : Nat) (h : gA ≤ w) : gA + (if w < gA + gB then w - gA else gB) ≤ w := by
  split <;> omega

theorem ite_cases {α : Type} {c : Prop} [Decidable c] {a b : α} :
    (if c then a else b) = a ∨ (if c then a else b) = b := by
  by_cases h : c
  · exact .inl (if_pos h)
  · exact .inr (if_neg h)

theorem settingsOfRaw_inRange (r : RawConfig) : (settingsOfRaw r).InRange := by
  have number {lo hi : Nat} (h : lo ≤ hi) (v : Nat) : lo ≤ clampTo lo hi v ∧ clampTo lo hi v ≤ hi :=
    ⟨clampTo_ge h v, clampTo_le h v⟩
  refine ⟨number (by decide) _, number (by decide) _, guarantees_fit _ _ _ (clampTo_le (Nat.zero_le _) _), ?_,
    number (by decide) _, stepDown_clampTo_mem (by decide) (by decide) _, ?_, number (by decide) _,
    stepDown_clampTo_mem (by decide) (by decide) _, number (by decide) _, number (by decide) _, number (by decide) _,
    number (by decide) _, number (by decide) _, number (by decide) _⟩
  · exact ite_cases
  · exact ite_cases.symm

theorem clampTo_coded (h : lo ≤ v ∧ v ≤ hi) (hb : hi < 2 ^ w) : clampTo lo hi (BitVec.ofNat w v).toNat = v := by
  rw [BitVec.toNat_ofNat, Nat.mod_eq_of_lt (Nat.lt_of_le_of_lt h.2 hb), clampTo_eq_self_iff (Nat.le_trans h.1 h.2)]
  exact h

theorem stepDown_coded (h : lo ≤ v ∧ v ≤ hi ∧ v % step = 0) (hb : hi < 2 ^ w) :
    stepDown step (clampTo lo hi (BitVec.ofNat w v).toNat) = v := by
  rw [clampTo_coded ⟨h.1, h.2.1⟩ hb, stepDown, h.2.2, Nat.sub_zero]

/-- Settings in range and on their steps come through a record unchanged. -/
theorem settingsOfRaw_rawOfSettings (h : x.InRange) : settingsOfRaw (rawOfSettings x) = x := by
  obtain ⟨kReq, window, guar, depth, threshold, tLl, settle, stall, tCf, tDrn, tPk, tCmd, tAbt, tRel, tSw⟩ := h
  have w : clampTo 8 64 (BitVec.ofNat 8 x.window).toNat = x.window := clampTo_coded window (by decide)
  have small : x.window < 2 ^ 8 := by omega
  have gA : clampTo 0 x.window (BitVec.ofNat 8 x.guar.a).toNat = x.guar.a :=
    clampTo_coded ⟨Nat.zero_le _, by omega⟩ small
  have gB : clampTo 0 x.window (BitVec.ofNat 8 x.guar.b).toNat = x.guar.b :=
    clampTo_coded ⟨Nat.zero_le _, by omega⟩ small
  have fits : ¬ x.window < x.guar.a + x.guar.b := by omega
  obtain ⟨kReq', window', guar', depth', criterion', threshold', action', tLl', settle', stall', tCf', auto', peer', dest',
    mode', tDrn', tPk', tCmd', tAbt', tRel', tSw'⟩ := x
  simp only [settingsOfRaw, rawOfSettings, Settings.mk.injEq] at *
  simp only [w, gA, gB, if_neg fits]
  refine ⟨clampTo_coded kReq (by decide), trivial, trivial, ?_, ?_, clampTo_coded threshold (by decide), ?_,
    stepDown_coded tLl (by decide), ?_, clampTo_coded stall (by decide), stepDown_coded tCf (by decide), ?_, ?_, ?_, ?_,
    clampTo_coded tDrn (by decide), clampTo_coded tPk (by decide), clampTo_coded tCmd (by decide),
    clampTo_coded tAbt (by decide), clampTo_coded tRel (by decide), clampTo_coded tSw (by decide)⟩
  · rcases depth with rfl | rfl <;> rfl
  · cases criterion' <;> rfl
  · cases action' <;> rfl
  · rcases settle with rfl | rfl <;> rfl
  · cases auto' <;> rfl
  · cases peer' <;> rfl
  · cases dest' <;> rfl
  · cases mode' <;> rfl

theorem rawClamped_iff : rawClamped r = true ↔ rawOfSettings (settingsOfRaw r) ≠ r := bne_iff_ne

theorem rawClamped_rawOfSettings (h : x.InRange) : rawClamped (rawOfSettings x) = false := by
  rw [rawClamped, settingsOfRaw_rawOfSettings h]
  exact bne_self_eq_false _

/-! ### A record that is not clamped -/

/-- R184: a number of a record is as it was when it is in range. -/
theorem number_kept_iff {b : BitVec w} (h : lo ≤ hi) (hb : hi < 2 ^ w) :
    BitVec.ofNat w (clampTo lo hi b.toNat) = b ↔ lo ≤ b.toNat ∧ b.toNat ≤ hi := by
  rw [ofNat_eq_iff (Nat.lt_of_le_of_lt (clampTo_le h _) hb), clampTo_eq_self_iff h]

theorem stepped_kept_iff {b : BitVec w} (h : lo ≤ hi) (hl : lo % step = 0) (hb : hi < 2 ^ w) :
    BitVec.ofNat w (stepDown step (clampTo lo hi b.toNat)) = b ↔
      lo ≤ b.toNat ∧ b.toNat ≤ hi ∧ b.toNat % step = 0 := by
  rw [ofNat_eq_iff (Nat.lt_of_le_of_lt (stepDown_clampTo_mem h hl _).2.1 hb), stepDown_clampTo_eq_self_iff h hl]

/-- R184: the window and the guarantees of a record are as they were when they fit. -/
theorem guarantees_kept_iff {w' a b : Byte} : (BitVec.ofNat 8 (clampTo 8 64 w'.toNat) = w' ∧
    BitVec.ofNat 8 (clampTo 0 (clampTo 8 64 w'.toNat) a.toNat) = a ∧
    BitVec.ofNat 8 (if clampTo 8 64 w'.toNat < clampTo 0 (clampTo 8 64 w'.toNat) a.toNat + clampTo 0 (clampTo 8 64 w'.toNat) b.toNat
      then clampTo 8 64 w'.toNat - clampTo 0 (clampTo 8 64 w'.toNat) a.toNat
      else clampTo 0 (clampTo 8 64 w'.toNat) b.toNat) = b) ↔
    8 ≤ w'.toNat ∧ w'.toNat ≤ 64 ∧ a.toNat + b.toNat ≤ w'.toNat := by
  have high : clampTo 8 64 w'.toNat ≤ 64 := clampTo_le (by decide) _
  generalize hW : clampTo 8 64 w'.toNat = W at high ⊢
  have gA := clampTo_eq (Nat.zero_le W) a.toNat
  have gB := clampTo_eq (Nat.zero_le W) b.toNat
  rw [clampTo_eq (by decide)] at hW
  rw [ofNat_eq_iff (by omega), ofNat_eq_iff (by omega), ofNat_eq_iff (by split <;> omega)]
  split <;> omega

end Sys2Proof.Machine
end

section
/-! The obligation about the settings of a record (R182, R184). -/

namespace Sys2Proof.Machine

/- Declarations are elaborated one after another, which keeps the check within its memory. -/
set_option Elab.async false

variable {r : RawConfig} {c : Byte}

/-! ### The codes of a record -/

theorem depth_kept_iff : BitVec.ofNat 8 (if c = 8#8 then 8 else 16) = c ↔ c = 8#8 ∨ c = 16#8 := by
  by_cases eight : c = 8#8
  · simp [eight]
  · rw [if_neg eight]
    exact ⟨fun h => .inr h.symm, fun h => (h.resolve_left eight).symm⟩

theorem settleCount_kept_iff : BitVec.ofNat 8 (if c = 3#8 then 3 else 2) = c ↔ c = 2#8 ∨ c = 3#8 := by
  by_cases three : c = 3#8
  · simp [three]
  · rw [if_neg three]
    exact ⟨fun h => .inl h.symm, fun h => (h.resolve_right three).symm⟩

theorem code_one_iff (h : c ≠ 1#8) : 0#8 = c ↔ c ≤ 1#8 := by bv_omega

theorem code_zero_iff (h : c ≠ 0#8) : 1#8 = c ↔ c ≤ 1#8 := by bv_omega

theorem criterion_kept_iff : (rawOfSettings (settingsOfRaw r)).criterion = r.criterion ↔ r.criterion ≤ 2#8 := by
  have code : (rawOfSettings (settingsOfRaw r)).criterion =
      match (if r.criterion = 0x00#8 then Criterion.twoOfFour else if r.criterion = 0x02#8 then .fiveOfSixteen
        else .threeOfEight) with
      | .twoOfFour => 0x00 | .threeOfEight => 0x01 | .fiveOfSixteen => 0x02 := rfl
  rw [code]
  by_cases zero : r.criterion = 0x00#8
  · simp [zero]
  · by_cases two : r.criterion = 0x02#8
    · simp [two]
    · rw [if_neg zero, if_neg two]
      bv_omega

theorem action_kept_iff : (rawOfSettings (settingsOfRaw r)).action = r.action ↔ r.action ≤ 1#8 := by
  have code : (rawOfSettings (settingsOfRaw r)).action =
      match (if r.action = 0x01#8 then CheckAction.research else .report) with | .report => 0x00 | .research => 0x01 := rfl
  rw [code]
  by_cases one : r.action = 0x01#8
  · simp [one]
  · rw [if_neg one]
    exact code_one_iff one

theorem destination_kept_iff : (rawOfSettings (settingsOfRaw r)).destination = r.destination ↔ r.destination ≤ 1#8 := by
  have code : (rawOfSettings (settingsOfRaw r)).destination =
      match (if r.destination = 0x01#8 then DestSetting.none else .survivor) with | .survivor => 0x00 | .none => 0x01 := rfl
  rw [code]
  by_cases one : r.destination = 0x01#8
  · simp [one]
  · rw [if_neg one]
    exact code_one_iff one

theorem fenceMode_kept_iff : (rawOfSettings (settingsOfRaw r)).fenceMode = r.fenceMode ↔ r.fenceMode ≤ 1#8 := by
  have code : (rawOfSettings (settingsOfRaw r)).fenceMode =
      match (if r.fenceMode = 0x01#8 then FenceMode.abort else .drain) with | .drain => 0x00 | .abort => 0x01 := rfl
  rw [code]
  by_cases one : r.fenceMode = 0x01#8
  · simp [one]
  · rw [if_neg one]
    exact code_one_iff one

theorem onOff_kept_iff : boolCode (onOffOfCode c) = c ↔ c ≤ 1#8 := by
  by_cases zero : c = 0x00#8
  · simp [zero, onOffOfCode, boolCode]
  · have on : boolCode (onOffOfCode c) = 1#8 := by simp [onOffOfCode, boolCode, zero]
    rw [on]
    exact code_zero_iff zero

/-! ### The whole record -/

theorem rawOfSettings_eq_iff (x : Settings) (r : RawConfig) : rawOfSettings x = r ↔
    (BitVec.ofNat 8 x.kReq = r.kReq ∧ (BitVec.ofNat 8 x.window = r.window ∧ BitVec.ofNat 8 x.guar.a = r.guarA ∧
      BitVec.ofNat 8 x.guar.b = r.guarB) ∧ BitVec.ofNat 8 x.depth = r.depth ∧ (rawOfSettings x).criterion = r.criterion) ∧
    (BitVec.ofNat 16 x.threshold = r.threshold ∧ (rawOfSettings x).action = r.action ∧ BitVec.ofNat 16 x.tLl = r.tLl ∧
      BitVec.ofNat 8 x.settleCount = r.settleCount ∧ BitVec.ofNat 16 x.stallLimit = r.stallLimit ∧
      BitVec.ofNat 16 x.tCf = r.tCf) ∧
    (boolCode x.autoTakeover = r.autoTakeover ∧ boolCode x.peerTakeover = r.peerTakeover ∧
      (rawOfSettings x).destination = r.destination ∧ (rawOfSettings x).fenceMode = r.fenceMode) ∧
    (BitVec.ofNat 16 x.tDrn = r.tDrn ∧ BitVec.ofNat 8 x.tPk = r.tPk ∧ BitVec.ofNat 8 x.tCmd = r.tCmd ∧
      BitVec.ofNat 16 x.tAbt = r.tAbt ∧ BitVec.ofNat 16 x.tRel = r.tRel ∧ BitVec.ofNat 16 x.tSw = r.tSw) := by
  cases r
  simp only [rawOfSettings, RawConfig.mk.injEq, and_assoc]

/-- R184: a record is not CLAMPED when every field of it is in range, on its step, defined and under W. -/
theorem rawClamped_eq_false_iff : rawClamped r = false ↔
    (8 ≤ r.kReq.toNat ∧ r.kReq.toNat ≤ 30 ∧ 8 ≤ r.window.toNat ∧ r.window.toNat ≤ 64 ∧
      r.guarA.toNat + r.guarB.toNat ≤ r.window.toNat ∧ (r.depth = 8#8 ∨ r.depth = 16#8) ∧ r.criterion ≤ 2#8) ∧
    (1 ≤ r.threshold.toNat ∧ r.threshold.toNat ≤ 1000 ∧ r.action ≤ 1#8 ∧ 8 ≤ r.tLl.toNat ∧ r.tLl.toNat ≤ 504 ∧
      r.tLl.toNat % 8 = 0 ∧ (r.settleCount = 2#8 ∨ r.settleCount = 3#8) ∧ 100 ≤ r.stallLimit.toNat ∧
      r.stallLimit.toNat ≤ 65000 ∧ 100 ≤ r.tCf.toNat ∧ r.tCf.toNat ≤ 30000 ∧ r.tCf.toNat % 100 = 0) ∧
    (r.autoTakeover ≤ 1#8 ∧ r.peerTakeover ≤ 1#8 ∧ r.destination ≤ 1#8 ∧ r.fenceMode ≤ 1#8) ∧
    (500 ≤ r.tDrn.toNat ∧ r.tDrn.toNat ≤ 30000 ∧ 1 ≤ r.tPk.toNat ∧ r.tPk.toNat ≤ 60 ∧ 1 ≤ r.tCmd.toNat ∧
      r.tCmd.toNat ≤ 120 ∧ 500 ≤ r.tAbt.toNat ∧ r.tAbt.toNat ≤ 10000 ∧ 100 ≤ r.tRel.toNat ∧
      r.tRel.toNat ≤ 10000 ∧ 5 ≤ r.tSw.toNat ∧ r.tSw.toNat ≤ 600) := by
  have kept : rawClamped r = false ↔ rawOfSettings (settingsOfRaw r) = r := bne_eq_false_iff_eq
  rw [kept, rawOfSettings_eq_iff]
  refine (and_congr (and_congr (number_kept_iff (by decide) (by decide)) (and_congr guarantees_kept_iff
    (and_congr depth_kept_iff criterion_kept_iff))) (and_congr
    (and_congr (number_kept_iff (by decide) (by decide)) (and_congr action_kept_iff
      (and_congr (stepped_kept_iff (by decide) (by decide) (by decide)) (and_congr settleCount_kept_iff
        (and_congr (number_kept_iff (by decide) (by decide)) (stepped_kept_iff (by decide) (by decide) (by decide)))))))
    (and_congr (and_congr onOff_kept_iff (and_congr onOff_kept_iff (and_congr destination_kept_iff fenceMode_kept_iff)))
      (and_congr (number_kept_iff (by decide) (by decide)) (and_congr (number_kept_iff (by decide) (by decide))
        (and_congr (number_kept_iff (by decide) (by decide)) (and_congr (number_kept_iff (by decide) (by decide))
          (and_congr (number_kept_iff (by decide) (by decide)) (number_kept_iff (by decide) (by decide)))))))))).trans ?_
  simp only [and_assoc]

theorem stepDown_below {lo hi step v : Nat} (hl : lo % step = 0) (hv : v < lo) :
    stepDown step (clampTo lo hi v) = lo := by
  have low : clampTo lo hi v = lo := if_pos hv
  rw [low, stepDown, hl, Nat.sub_zero]

theorem stepDown_above {lo hi step v : Nat} (h : lo ≤ hi) (hh : hi % step = 0) (hv : hi < v) :
    stepDown step (clampTo lo hi v) = hi := by
  have high : clampTo lo hi v = hi := by
    rw [clampTo_eq h]
    omega
  rw [high, stepDown, hh, Nat.sub_zero]

theorem clampTo_zero_eq (w v : Nat) : clampTo 0 w v = min v w := by
  rw [clampTo_eq (Nat.zero_le w)]
  omega

theorem onOffOfCode_eq (c : Byte) : onOffOfCode c = if c = 0#8 then false else true := by
  by_cases zero : c = 0#8 <;> simp [onOffOfCode, zero]

/-- Settles O41: ranges, the record in bytes, and the fields one by one. -/
theorem settingsInRange : Obligations.SettingsInRange := by
  refine ⟨?ranges, fun r => settingsOfRaw_rawOfSettings (settingsOfRaw_inRange r),
    fun r => ⟨configOfBytes_configBytes r, configBytes_length r⟩,
    fun x h => ⟨settingsOfRaw_rawOfSettings h, rawClamped_rawOfSettings h⟩, ?fields⟩
  case ranges =>
    rintro r x rfl
    obtain ⟨kReq, window, guar, depth, threshold, tLl, settle, stall, tCf, tDrn, tPk, tCmd, tAbt, tRel, tSw⟩ :=
      settingsOfRaw_inRange r
    exact ⟨kReq.1, kReq.2, window.1, window.2, guar, depth, threshold.1, threshold.2, tLl.1, tLl.2.1, tLl.2.2, settle,
      stall.1, stall.2, tCf.1, tCf.2.1, tCf.2.2, tDrn.1, tDrn.2, tPk.1, tPk.2, tCmd.1, tCmd.2, tAbt.1, tAbt.2, tRel.1,
      tRel.2, tSw.1, tSw.2⟩
  case fields =>
    rintro r x rfl
    refine ⟨?numbers, ?steps, ?codes, ⟨clampTo_zero_eq _ _, ?_⟩, rawClamped_iff, rawClamped_eq_false_iff⟩
    case numbers =>
      exact ⟨clampTo_eq (by decide) _, clampTo_eq (by decide) _, clampTo_eq (by decide) _, clampTo_eq (by decide) _,
        clampTo_eq (by decide) _, clampTo_eq (by decide) _, clampTo_eq (by decide) _, clampTo_eq (by decide) _,
        clampTo_eq (by decide) _, clampTo_eq (by decide) _⟩
    case steps =>
      exact ⟨stepDown_below (by decide), stepDown_above (by decide) (by decide), stepDown_clampTo_of_mem,
        stepDown_below (by decide), stepDown_above (by decide) (by decide), stepDown_clampTo_of_mem⟩
    case codes =>
      exact ⟨rfl, rfl, rfl, rfl, onOffOfCode_eq _, onOffOfCode_eq _, rfl, rfl⟩
    · rw [← clampTo_zero_eq]
      rfl

end Sys2Proof.Machine
end

section
/-! Proofs about the bytes of the image: its length, its checksum, and its fields (R166, R167, R168). -/

namespace Sys2Proof.Machine

/- Declarations are elaborated one after another, which keeps the check within its memory. -/
set_option Elab.async false

variable {s : State} {g : BitVec 32} {m n off v : Nat} {bs rest : List Byte}

/-! ### Sums of words -/

theorem wordSum_append {xs : List Byte} (h : xs.length % 2 = 0) (ys : List Byte) :
    wordSum (xs ++ ys) = wordSum xs + wordSum ys := by
  match xs with
  | [] => simp [wordSum]
  | [x] => simp at h
  | x :: y :: xs =>
    have even : xs.length % 2 = 0 := by
      simp only [List.length_cons] at h
      omega
    rw [List.cons_append, List.cons_append, wordSum, wordSum, wordSum_append even ys]
    omega

theorem wordSum_leBytes (h : v < 65536) : wordSum (leBytes 2 v) = v := by
  have sum : wordSum (leBytes 2 v) = leNat (leBytes 2 v) := by simp [leBytes, wordSum, leNat]
  rw [sum, leNat_leBytes 2 v h]

theorem checksumFor_lt (sum : Nat) : checksumFor sum < 65536 := Nat.mod_lt _ (by decide)

theorem checksumFor_completes (sum : Nat) : (checksumFor sum + sum) % 65536 = 0x7E51 := by
  rw [checksumFor, imageSumValue]
  omega

/-! ### The parts of the image -/

theorem imageHeadBytes_length (s : State) (g : BitVec 32) : (imageHeadBytes s g).length = 56 := by
  simp [imageHeadBytes, configBytes_length]

theorem entryImage_length (e : Extent) : e.imageBytes.length = 8 := by
  simp [Extent.imageBytes]

theorem entryImages_length (es : List Extent) : (es.flatMap Extent.imageBytes).length = 8 * es.length := by
  induction es with
  | nil => rfl
  | cons e es ih =>
    rw [List.flatMap_cons, List.length_append, ih, entryImage_length, List.length_cons]
    omega

theorem entryBytes_length (h : s.oc.extents.length ≤ 1024) : (entryBytes s).length = 8192 := by
  rw [entryBytes, List.length_append, entryImages_length, List.length_replicate, Config.maxExtents]
  omega

/-- The checksum word of an image. -/
def imageChecksum (s : State) (g : BitVec 32) : Nat :=
  checksumFor (wordSum (imageHeadBytes s g) + wordSum imageTailBytes + wordSum (entryBytes s))

theorem imageOf_eq (s : State) (g : BitVec 32) : imageOf s g =
    imageHeadBytes s g ++ (leBytes 2 (imageChecksum s g) ++ (imageTailBytes ++ entryBytes s)) := by
  simp [imageOf, imageChecksum]

theorem imageOf_length (h : s.oc.extents.length ≤ 1024) : (imageOf s g).length = 8320 := by
  rw [imageOf_eq]
  simp [imageHeadBytes_length, imageTailBytes, entryBytes_length h]

theorem wordSum_framed (s : State) (g : BitVec 32) {w : List Byte} (hw : w.length = 2) :
    wordSum (imageHeadBytes s g ++ (w ++ (imageTailBytes ++ entryBytes s))) =
      wordSum w + (wordSum (imageHeadBytes s g) + wordSum imageTailBytes + wordSum (entryBytes s)) := by
  rw [wordSum_append (by rw [imageHeadBytes_length]), wordSum_append (by rw [hw]), wordSum_append (by simp [imageTailBytes])]
  omega

/-! ### Fields of joined bytes -/

theorem fieldAt_append_right (h : bs.length ≤ off) : fieldAt (bs ++ rest) off n = fieldAt rest (off - bs.length) n := by
  rw [fieldAt, fieldAt, List.drop_append, List.drop_eq_nil_of_le h, List.nil_append]

theorem fieldAt_append_left (h : off + n ≤ bs.length) : fieldAt (bs ++ rest) off n = fieldAt bs off n := by
  rw [fieldAt, fieldAt, List.drop_append_of_le_length (by omega), List.take_append_of_le_length]
  rw [List.length_drop]
  omega

theorem fieldAt_leBytes (h : v < 256 ^ n) : fieldAt (leBytes n v ++ rest) 0 n = v := by
  rw [fieldAt, List.drop_zero, List.take_left' (leBytes_length n v), leNat_leBytes n v h]

/-- Settles O53: the checksum word completes the sum of the others. -/
theorem imageSumIs7E51 : Obligations.ImageSumIs7E51 := by
  intro s g h
  have word : (leBytes 2 (imageChecksum s g)).length = 2 := leBytes_length ..
  have small : imageChecksum s g < 65536 := checksumFor_lt _
  refine ⟨imageOf_length h, ?_, ?_⟩
  · rw [imageOf_eq, wordSum_framed s g word, wordSum_leBytes small]
    exact checksumFor_completes _
  · have field : fieldAt (imageOf s g) 56 2 = imageChecksum s g := by
      rw [imageOf_eq, fieldAt_append_right (Nat.le_of_eq (imageHeadBytes_length s g)), imageHeadBytes_length]
      exact fieldAt_leBytes small
    have others : (imageOf s g).take 56 ++ [0, 0] ++ (imageOf s g).drop 58 =
        imageHeadBytes s g ++ ([0, 0] ++ (imageTailBytes ++ entryBytes s)) := by
      have front : (imageHeadBytes s g ++ leBytes 2 (imageChecksum s g)).length = 58 := by
        rw [List.length_append, imageHeadBytes_length, word]
      rw [imageOf_eq, List.take_left' (imageHeadBytes_length s g), ← List.append_assoc, List.drop_left' front,
        List.append_assoc]
    have blank : wordSum [0, 0] = 0 := rfl
    rw [field, others, wordSum_framed s g rfl, blank, Nat.zero_add]
    exact checksumFor_completes _

end Sys2Proof.Machine
end

section
/-! What the image that the part writes is when it is read again (R166, R168, R171). -/

namespace Sys2Proof.Machine

/- Declarations are elaborated one after another, which keeps the check within its memory. -/
set_option Elab.async false

variable {s : State} {g : BitVec 32} {m n off v i : Nat} {bs rest : List Byte} {e : Extent}

/-! ### The header fields -/

theorem fieldAt_leBytes_skip (h : m ≤ off) : fieldAt (leBytes m v ++ rest) off n = fieldAt rest (off - m) n := by
  rw [fieldAt_append_right (by rw [leBytes_length]; exact h), leBytes_length]

/-- The header of an image, field by field. -/
theorem imageHeadBytes_eq (s : State) (g : BitVec 32) : imageHeadBytes s g =
    leBytes 2 imageSignature ++ (leBytes 2 1 ++ (leBytes 4 g.toNat ++ (leBytes 4 s.oc.emap.toNat ++
      (leBytes 1 s.oc.shift ++ (leBytes 1 0 ++ (leBytes 2 s.oc.extents.length ++ (leBytes 6 s.oc.visible ++
        (leBytes 2 s.oc.ownerId.a.toNat ++ (leBytes 2 s.oc.ownerId.b.toNat ++
          configBytes (rawOfSettings s.mi.settings)))))))))) := by
  simp only [imageHeadBytes, List.append_assoc]
  rfl

theorem fieldAt_image_head (h : off + n ≤ 56) : fieldAt (imageOf s g) off n = fieldAt (imageHeadBytes s g) off n := by
  rw [imageOf_eq, fieldAt_append_left (by rw [imageHeadBytes_length]; exact h)]

/-- A header field of a value that fits it is read back, once the fields before it are passed over. -/
theorem image_signature : fieldAt (imageOf s g) 0 2 = 0x5A3C := by
  rw [fieldAt_image_head (by decide), imageHeadBytes_eq, fieldAt_leBytes (by decide)]
  rfl

theorem image_version : fieldAt (imageOf s g) 2 2 = 1 := by
  rw [fieldAt_image_head (by decide), imageHeadBytes_eq]
  simp only [fieldAt_leBytes_skip, Nat.reduceLeDiff, Nat.reduceSub]
  exact fieldAt_leBytes (by decide)

theorem image_generation : fieldAt (imageOf s g) 4 4 = g.toNat := by
  rw [fieldAt_image_head (by decide), imageHeadBytes_eq]
  simp only [fieldAt_leBytes_skip, Nat.reduceLeDiff, Nat.reduceSub]
  exact fieldAt_leBytes g.isLt

theorem image_epoch : fieldAt (imageOf s g) 8 4 = s.oc.emap.toNat := by
  rw [fieldAt_image_head (by decide), imageHeadBytes_eq]
  simp only [fieldAt_leBytes_skip, Nat.reduceLeDiff, Nat.reduceSub]
  exact fieldAt_leBytes s.oc.emap.isLt

theorem image_shift (h : s.oc.shift < 256) : fieldAt (imageOf s g) 12 1 = s.oc.shift := by
  rw [fieldAt_image_head (by decide), imageHeadBytes_eq]
  simp only [fieldAt_leBytes_skip, Nat.reduceLeDiff, Nat.reduceSub]
  exact fieldAt_leBytes h

theorem image_extentCount (h : s.oc.extents.length < 65536) : fieldAt (imageOf s g) 14 2 = s.oc.extents.length := by
  rw [fieldAt_image_head (by decide), imageHeadBytes_eq]
  simp only [fieldAt_leBytes_skip, Nat.reduceLeDiff, Nat.reduceSub]
  exact fieldAt_leBytes h

theorem image_visible (h : s.oc.visible < 2 ^ 48) : fieldAt (imageOf s g) 16 6 = s.oc.visible := by
  rw [fieldAt_image_head (by decide), imageHeadBytes_eq]
  simp only [fieldAt_leBytes_skip, Nat.reduceLeDiff, Nat.reduceSub]
  exact fieldAt_leBytes h

theorem image_ownerA : fieldAt (imageOf s g) 22 2 = s.oc.ownerId.a.toNat := by
  rw [fieldAt_image_head (by decide), imageHeadBytes_eq]
  simp only [fieldAt_leBytes_skip, Nat.reduceLeDiff, Nat.reduceSub]
  exact fieldAt_leBytes s.oc.ownerId.a.isLt

theorem image_ownerB : fieldAt (imageOf s g) 24 2 = s.oc.ownerId.b.toNat := by
  rw [fieldAt_image_head (by decide), imageHeadBytes_eq]
  simp only [fieldAt_leBytes_skip, Nat.reduceLeDiff, Nat.reduceSub]
  exact fieldAt_leBytes s.oc.ownerId.b.isLt

theorem image_config : ((imageOf s g).drop 26).take 30 = configBytes (rawOfSettings s.mi.settings) := by
  have drop_le {k m v : Nat} {rest : List Byte} (h : m ≤ k) : (leBytes m v ++ rest).drop k = rest.drop (k - m) := by
    rw [List.drop_append, List.drop_eq_nil_of_le (by rw [leBytes_length]; exact h), List.nil_append, leBytes_length]
  rw [imageOf_eq, imageHeadBytes_eq]
  simp only [List.append_assoc, drop_le, Nat.reduceLeDiff, Nat.reduceSub, List.drop_zero]
  exact List.take_left' (configBytes_length _)

theorem image_storedConfig : storedConfig (imageOf s g) = rawOfSettings s.mi.settings := by
  rw [storedConfig, image_config, configOfBytes_configBytes]

/-! ### The entry records -/

theorem fieldAt_entries {es : List Extent} (he : es[i]? = some e) (h : off + n ≤ 8) :
    fieldAt (es.flatMap Extent.imageBytes ++ rest) (8 * i + off) n = fieldAt e.imageBytes off n := by
  induction es generalizing i with
  | nil => simp at he
  | cons x es ih =>
    rw [List.flatMap_cons, List.append_assoc]
    cases i with
    | zero =>
      obtain rfl : x = e := by simpa using he
      rw [Nat.mul_zero, Nat.zero_add, fieldAt_append_left (by rw [entryImage_length]; exact h)]
    | succ i =>
      rw [fieldAt_append_right (by rw [entryImage_length]; omega), entryImage_length]
      have shift : 8 * (i + 1) + off - 8 = 8 * i + off := by omega
      rw [shift]
      exact ih (by simpa using he)

theorem fieldAt_image_entry (he : s.oc.extents[i]? = some e) (h : off + n ≤ 8) :
    fieldAt (imageOf s g) (128 + off + 8 * i) n = fieldAt e.imageBytes off n := by
  have tail : imageTailBytes.length = 70 := List.length_replicate ..
  rw [imageOf_eq, fieldAt_append_right (by rw [imageHeadBytes_length]; omega), imageHeadBytes_length,
    fieldAt_leBytes_skip (by omega), fieldAt_append_right (by rw [tail]; omega), tail, entryBytes]
  have shift : 128 + off + 8 * i - 56 - 2 - 70 = 8 * i + off := by omega
  rw [shift, fieldAt_entries he h]

theorem image_entry_owner (he : s.oc.extents[i]? = some e) : byteAt (imageOf s g) (128 + 8 * i) = ownerCode e.owner := by
  have field := fieldAt_image_entry (g := g) (off := 0) (n := 1) he (by decide)
  rw [byteAt, ← Nat.add_zero 128, field]
  simp [Extent.imageBytes, fieldAt, leNat]

theorem image_entry_policy (he : s.oc.extents[i]? = some e) : byteAt (imageOf s g) (129 + 8 * i) = e.policy.code := by
  have field := fieldAt_image_entry (g := g) (off := 1) (n := 1) he (by decide)
  rw [byteAt, field]
  simp [Extent.imageBytes, fieldAt, leNat]

theorem image_entry_epoch (he : s.oc.extents[i]? = some e) :
    fieldAt (imageOf s g) (130 + 8 * i) 4 = e.epoch.toNat := by
  have field := fieldAt_image_entry (g := g) (off := 2) (n := 4) he (by decide)
  have record : e.imageBytes = leBytes 1 (ownerCode e.owner).toNat ++ (leBytes 1 e.policy.code.toNat ++
      (leBytes 4 e.epoch.toNat ++ [0, 0])) := by simp [Extent.imageBytes, leBytes]
  rw [field, record]
  simp only [fieldAt_leBytes_skip, Nat.reduceLeDiff, Nat.reduceSub]
  exact fieldAt_leBytes e.epoch.isLt

theorem portOfCode_ownerCode (o : Option Port) : portOfCode (ownerCode o) = o := by
  cases o with
  | none => rfl
  | some p => cases p <;> rfl

theorem policyOfCode_code (x : Policy) : policyOfCode x.code = some x := by
  cases x <;> rfl

theorem extentOfImage_written (he : s.oc.extents[i]? = some e) :
    extentOfImage (imageOf s g) i = { e with inflight := 0, mark := none, claim := none } := by
  rw [extentOfImage, image_entry_owner he, image_entry_policy he, image_entry_epoch he, portOfCode_ownerCode,
    policyOfCode_code, BitVec.ofNat_toNat, BitVec.setWidth_eq]
  rfl

/-! ### The round trip -/

theorem imageRead_of_length {img : List Byte} (h : img.length = 8320) : imageRead img = img := by
  simp [imageRead, Config.imageBytes, h, List.take_of_length_le]

/-- Settles O54: every field of the image is read back as it was written. -/
theorem imageRoundTrip : Obligations.ImageRoundTrip := by
  intro s g r hr hv hv' hshift hcount hepochs
  have range : s.mi.settings.InRange := hr ▸ settingsOfRaw_inRange r
  have settings : settingsOfRaw (storedConfig (imageOf s g)) = s.mi.settings := by
    rw [image_storedConfig, settingsOfRaw_rawOfSettings range]
  have unclamped : rawClamped (storedConfig (imageOf s g)) = false := by
    rw [image_storedConfig, rawClamped_rawOfSettings range]
  obtain ⟨low, small, -, -, -, few, -, -⟩ := geometryExact s.oc.visible s.mi.settings.kReq hv hv' range.1.1 range.1.2
  rw [← hshift] at small few
  rw [← hcount] at few
  have all : (List.range s.oc.extents.length).map (extentOfImage (imageOf s g)) =
      s.oc.extents.map fun e => { e with inflight := 0, mark := none, claim := none } := by
    refine List.ext_getElem (by simp) fun i h _ => ?_
    rw [List.getElem_map, List.getElem_map, List.getElem_range]
    exact extentOfImage_written (List.getElem?_eq_getElem _)
  refine ⟨imageRead_of_length (imageOf_length few), ?_, ?_⟩
  · rw [imageValid_iff, settings, ← hshift, ← hcount]
    refine ⟨image_signature, image_version, (imageSumIs7E51 s g few).2.1, image_visible (by omega), image_shift (by omega),
      image_extentCount (by omega), fun i hi => ?_⟩
    rw [image_entry_epoch (List.getElem?_eq_getElem hi), image_epoch]
    exact hepochs _ (List.getElem_mem hi)
  · rw [decodeImage, settings, unclamped, ← hshift, ← hcount, all, image_generation, image_epoch, wordAt, wordAt,
      image_ownerA, image_ownerB]
    simp only [BitVec.ofNat_toNat, BitVec.setWidth_eq]

end Sys2Proof.Machine
end

section
/-! Proofs about the records of the management line (R181, R182, R183, R189). -/

namespace Sys2Proof.Machine

/- Declarations are elaborated one after another, which keeps the check within its memory. -/
set_option Elab.async false

variable {s : State} {seq kind port : Byte} {rest bytes : List Byte}

/-! ### The reads -/

theorem exec_readState_of_quiet (hq : Quiet s) : exec (.readState seq) s = .next (takeReadState seq s) := by
  have arm : exec (.readState seq) s = .next (takeReadState seq (settle s)) := rfl
  rw [arm, settle_of_quiet hq]

theorem exec_readEvents_of_quiet (hq : Quiet s) : exec (.readEvents seq) s = .next (takeReadEvents seq s) := by
  have arm : exec (.readEvents seq) s = .next (takeReadEvents seq (settle s)) := rfl
  rw [arm, settle_of_quiet hq]

theorem exec_readConfig_of_quiet (hq : Quiet s) : exec (.readConfig seq) s = .next (takeReadConfig seq s) := by
  have arm : exec (.readConfig seq) s = .next (takeReadConfig seq (settle s)) := rfl
  rw [arm, settle_of_quiet hq]

theorem exec_malformedRecord_of_quiet (hq : Quiet s) : exec (.malformedRecord bytes) s = .next (takeMalformed bytes s) := by
  have arm : exec (.malformedRecord bytes) s = .next (takeMalformed bytes (settle s)) := rfl
  rw [arm, settle_of_quiet hq]

theorem recordMalformed_iff : recordMalformed (kind :: seq :: rest) = true ↔ recordLength kind ≠ some (rest.length + 2) := by
  simp [recordMalformed]

theorem takeMalformed_wrong (h : recordLength kind ≠ some (rest.length + 2)) : takeMalformed (kind :: seq :: rest) s =
    whenIdle (finish seq kind .invalid noMiFlags (zeroBody kind)) s :=
  if_pos (recordMalformed_iff.mpr h)

theorem takeMalformed_busy (h : s.mi.answer.status = .pending) : takeMalformed bytes s = s := by
  unfold takeMalformed
  split
  · rw [whenIdle_busy h, ite_self]
  · rfl

theorem setSlot_length (sets : List SetSummary) (n : Nat) : (setSlot sets n).length = 5 := by
  unfold setSlot
  split <;> simp

theorem readStateBody_length (s : State) : s.readStateBody.length = 96 := by
  simp [State.readStateBody, State.bridgeBytes, State.imageBytes, State.portBytes, State.arbiterBytes, State.intentBytes,
    setSlot_length]

theorem alertLow_iff : s.alertLow = true ↔ s.mi.events ≠ 0#16 := bne_iff_ne

/-! ### The body of READ STATE -/

theorem orphan_iff : s.orphan = true ↔
    s.port .a ≠ .enrolled ∧ s.port .b ≠ .enrolled ∧ (s.port .a = .fenced ∨ s.port .b = .fenced) := by
  simp [State.orphan, and_assoc]

theorem boolCode_eq {c : Bool} {P : Prop} [Decidable P] (h : c = true ↔ P) : boolCode c = if P then 1 else 0 := by
  unfold boolCode
  simp only [h]

theorem destCode_eq (d : Option (Option Port)) :
    destCode d = match d with | none => 0xFF | some none => 0 | some (some q) => portCode q := by
  rcases d with _ | _ | _ <;> rfl

theorem guarantee_eq (a : Au) (p : Port) :
    a.guarantee p = match a.window with | none => 0 | some w => w.guar.get p := by
  unfold Au.guarantee
  cases a.window <;> rfl

theorem causeCode_eq (c : Option FenceCause) : causeCode c = match c with | none => 0 | some c => c.code := by
  cases c <;> rfl

theorem blockSize_eq (s : State) : s.blockSize = match s.dct.firstAttach with | none => 0 | some x => x.2 := by
  unfold State.blockSize
  cases s.dct.firstAttach <;> rfl

/-- R183: the fields of one port. -/
theorem portBytes_eq (s : State) (p : Port) : s.portBytes p =
    [if (s.plu.get p).align = .down then 0 else 1, (s.plu.get p).align.code, if (s.plu.get p).degraded then 1 else 0] ++
    leBytes 1 (s.plu.get p).shiftCount.toNat ++ leBytes 2 (s.plu.get p).damaged.toNat ++
    leBytes 2 (s.plu.get p).linkLoss.toNat ++ leBytes 2 (s.plu.get p).outDiscard.toNat ++
    [(s.port p).code, (s.sup.get p).cause.code] ++ leBytes 2 (s.sup.get p).identity.toNat ++
    leBytes 2 (s.oc.ownerId.get p).toNat ++ [(s.tc.records.get p).stage.code, causeCode (s.tc.records.get p).cause] ++
    leBytes 2 (s.tc.records.get p).setId.toNat ++
    [destCode (s.tc.records.get p).dest, parkStageCode (s.tc.parks.get p)] ++
    leBytes 1 (s.au.queue.get p).length ++ leBytes 1 (s.au.depth.get p) ++ leBytes 1 (s.au.granted.get p) ++
    leBytes 1 (s.au.guarantee p) := by
  have up : boolCode (s.linkUp p) = if (s.plu.get p).align = .down then 0 else 1 := by
    rw [boolCode_eq linkUp_iff, ite_not]
  rw [State.portBytes, up]
  rfl

theorem originEntries_eq (d : Dct) (o : Origin) : d.originEntries o = (d.entries.filter fun e => e.origin = o).length := by
  simp [Dct.originEntries, Bool.beq_eq_decide_eq]

/-- R183: the fields of one intent set. -/
def IntentSet.slot (x : IntentSet) : List Byte :=
  leBytes 2 x.setId.toNat ++ [portCode x.port] ++ leBytes 1 x.entries.length ++
    leBytes 1 (x.entries.filter fun e => e.outcome = .notYet).length

theorem setSlot_eq (l : List IntentSet) (n : Nat) :
    setSlot (l.map IntentSet.summary) n = (l.map IntentSet.slot).getD n [0, 0, 0, 0, 0] := by
  rw [setSlot, List.getD_eq_getElem?_getD, List.getElem?_map, List.getElem?_map]
  cases l[n]? with
  | none => rfl
  | some x =>
    have open_ : (x.entries.filter fun e => e.outcome == .notYet) = x.entries.filter fun e => e.outcome = .notYet := by
      simp [Bool.beq_eq_decide_eq]
    simp [IntentSet.summary, IntentSet.slot, open_]

theorem windowLength_eq (w : Option ShareWindow) :
    ((w.map (·.length)).getD 0) = match w with | none => 0 | some x => x.length := by
  cases w <;> rfl

theorem cycleCode_eq (c : CycleState) : c.code = match c with | .idle => 0 | .writing => 1 | .flushing => 2 := by
  cases c <;> rfl

/-- R183: the body of READ STATE, field by field. -/
theorem readStateBody_eq (s : State) : s.readStateBody =
    [s.ic.bridge.code,
      if s.port .a ≠ .enrolled ∧ s.port .b ≠ .enrolled ∧ (s.port .a = .fenced ∨ s.port .b = .fenced) then 1 else 0] ++
    leBytes 1 s.oc.shift ++ leBytes 2 s.oc.extents.length ++ leBytes 6 s.oc.visible ++ leBytes 4 s.oc.emap.toNat ++
    [s.dct.drive.code] ++ leBytes 1 s.dct.depth ++ leBytes 2 s.blockSize ++
    leBytes 1 (s.dct.entries.filter fun e => e.origin = .server .a).length ++
    leBytes 1 (s.dct.entries.filter fun e => e.origin = .server .b).length ++
    leBytes 1 (s.dct.entries.filter fun e => e.origin = .bridge).length ++
    [s.ic.cycle.code] ++ leBytes 4 s.ic.generation.toNat ++ leBytes 1 s.ic.attempt ++ [boolCode s.ic.imageFault] ++
    s.portBytes .a ++ s.portBytes .b ++
    leBytes 1 s.au.w ++ leBytes 1 ((s.au.window.map (·.length)).getD 0) ++ [portCode s.au.last] ++
    leBytes 1 s.tc.intents.length ++ (s.tc.intents.map IntentSet.slot).getD 0 [0, 0, 0, 0, 0] ++
    (s.tc.intents.map IntentSet.slot).getD 1 [0, 0, 0, 0, 0] ++ leBytes 1 s.tc.discards.toNat := by
  simp only [State.readStateBody, State.bridgeBytes, State.imageBytes, State.arbiterBytes, State.intentBytes,
    boolCode_eq orphan_iff, originEntries_eq, setSlot_eq, List.length_map, State.extentCount, List.append_assoc]

/-! ### The answer record and the requests -/

theorem MiFlags.byte_eq (f : MiFlags) : f.byte =
    (if f.notDurable then 1 else 0) + (if f.clamped then 2 else 0) + (if f.held then 4 else 0) := by
  obtain ⟨a, b, c⟩ := f
  cases a <;> cases b <;> cases c <;> rfl

theorem commandOfRecord_malformed (h : recordMalformed bytes = true) : commandOfRecord bytes = .malformedRecord bytes := by
  unfold commandOfRecord
  rw [h]

theorem commandOfRecord_request (h : recordLength kind = some (rest.length + 2)) :
    commandOfRecord (kind :: seq :: rest) = requestOf kind seq rest := by
  have formed : recordMalformed (kind :: seq :: rest) = false := by
    rw [← Bool.not_eq_true, recordMalformed_iff]
    exact Classical.not_not.mpr h
  unfold commandOfRecord
  rw [formed]

theorem recordMalformed_short (h : bytes.length < 2) : recordMalformed bytes = true := by
  match bytes with
  | [] => rfl
  | [_] => rfl
  | _ :: _ :: rest =>
    rw [List.length_cons, List.length_cons] at h
    omega

/-- Settles O40: the answers, the body of READ STATE, the answer record and the requests. -/
theorem managementReads : Obligations.ManagementReads := by
  refine ⟨fun seq s hq hi => ⟨?_, readStateBody_length s, alertLow_iff, ?_, ⟨_, exec_readEvents_of_quiet hq, ?_, ?_⟩,
      fun kind rest h => ?_, fun b => ?_, ?_⟩,
    fun seq port r bytes s hq hp => ?busy, ?body, ?record, ?requests, ?codes⟩
  · rw [exec_readState_of_quiet hq, takeReadState, whenIdle_idle hi]
    rfl
  · rw [exec_readConfig_of_quiet hq, takeReadConfig, whenIdle_idle hi]
    rfl
  · rw [takeReadEvents, whenIdle_idle hi]
    rfl
  · rw [takeReadEvents, whenIdle_idle hi]
    rfl
  · rw [exec_malformedRecord_of_quiet hq, takeMalformed_wrong h, whenIdle_idle hi]
    rfl
  · exact exec_malformedRecord_of_quiet hq
  · exact exec_malformedRecord_of_quiet hq
  case busy =>
    rw [exec_readState_of_quiet hq, exec_readEvents_of_quiet hq, exec_readConfig_of_quiet hq, exec_writeConfig_of_quiet hq,
      exec_fencePort_of_quiet hq, exec_clearMap_of_quiet hq, exec_malformedRecord_of_quiet hq, takeReadState,
      takeReadEvents, takeReadConfig, takeWriteConfig, takeFencePort, takeClearMap, takeMalformed_busy hp]
    simp only [whenIdle_busy hp, and_self]
  case body =>
    intro s fields count sets n hfields hcount hn hsets
    have fields_eq : fields = s.portBytes := funext fun p => (hfields p).trans <| by
      rw [portBytes_eq, destCode_eq, guarantee_eq, causeCode_eq]
      rfl
    have count_eq : count = fun o => (s.dct.entries.filter fun e => e.origin = o).length := funext hcount
    rw [readStateBody_eq, fields_eq, count_eq, hn, hsets, windowLength_eq, cycleCode_eq, blockSize_eq]
    rfl
  case record =>
    rintro s a rfl
    rw [State.readRecord, AnswerRecord.bytes, MiFlags.byte_eq]
    rfl
  case requests =>
    intro seq kind port r bytes rest
    refine ⟨rfl, rfl, rfl, ?_, ?_, rfl, rfl, fun h => commandOfRecord_malformed (recordMalformed_short h), fun h => ?_⟩
    · have fits : recordLength 0x04#8 = some ((configBytes r).length + 2) := by rw [configBytes_length]; rfl
      refine (commandOfRecord_request fits).trans ?_
      exact congrArg (Instr.writeConfig seq) (configOfBytes_configBytes r)
    · refine (commandOfRecord_request (rest := [port]) rfl).trans ?_
      exact congrArg (Instr.fencePort seq) (byteAt_cons_zero port [])
    · exact commandOfRecord_malformed (recordMalformed_iff.mpr h)
  case codes =>
    exact ⟨rfl, rfl, rfl, rfl, rfl, rfl, rfl, rfl, rfl, rfl, rfl⟩

end Sys2Proof.Machine
end

section
/-! What the delivery of messages leaves of the judgement of the frame that carried them (R6): the settings and the
error histories, one lemma per operation in the order of the model's files. -/

namespace Sys2Proof.Machine

/- Declarations are elaborated one after another, which keeps the check within its memory. -/
set_option Elab.async false

variable {p : Port} {s : State}

/-! ### What a frame's judgement reads -/

/-- What a frame's judgement reads after its messages are delivered: the settings and the error histories. -/
def State.memory (s : State) : Settings × List Bool × List Bool := (s.mi.settings, s.plu.a.history, s.plu.b.history)

theorem memory_eq_iff {t : State} : t.memory = s.memory ↔ ∀ p : Port, HistoryKept p s t := by
  constructor
  · intro h p
    simp only [State.memory, Prod.mk.injEq] at h
    obtain ⟨settings, a, b⟩ := h
    cases p
    · exact ⟨settings, a⟩
    · exact ⟨settings, b⟩
  · intro h
    exact Prod.ext (h .a).1 (Prod.ext (h .a).2 (h .b).2)

@[simp] theorem onSup_memory (f : Supervisor → Supervisor) : (s.onSup p f).memory = s.memory := rfl

@[simp] theorem onOc_memory (f : Oc → Oc) : (s.onOc f).memory = s.memory := rfl

@[simp] theorem onAu_memory (f : Au → Au) : (s.onAu f).memory = s.memory := rfl

@[simp] theorem onDct_memory (f : Dct → Dct) : (s.onDct f).memory = s.memory := rfl

@[simp] theorem onTc_memory (f : Tc → Tc) : (s.onTc f).memory = s.memory := rfl

@[simp] theorem onIc_memory (f : Ic → Ic) : (s.onIc f).memory = s.memory := rfl

theorem onMi_memory {f : Mi → Mi} (h : (f s.mi).settings = s.mi.settings) : (s.onMi f).memory = s.memory :=
  Prod.ext h rfl

theorem onPlu_memory {f : Plu → Plu} (h : ∀ u, (f u).history = u.history) : (s.onPlu p f).memory = s.memory := by
  cases p
  · exact Prod.ext rfl (Prod.ext (h _) rfl)
  · exact Prod.ext rfl (Prod.ext rfl (h _))

theorem foldl_memory {α : Type} {f : State → α → State} (h : ∀ s x, (f s x).memory = s.memory) (l : List α)
    (s : State) :
    (l.foldl f s).memory = s.memory :=
  foldl_keeps (fun t : State => t.memory = s.memory) f (fun t x ht => (h t x).trans ht) l s rfl

@[simp] theorem fencePort_memory {cause : FenceCause} : (fencePort p cause s).memory = s.memory :=
  memory_eq_iff.mpr fun _ => fencePort_historyKept p cause s

@[simp] theorem judge_memory : (judge p s).memory = s.memory := memory_eq_iff.mpr fun _ => judge_historyKept p s

@[simp] theorem handOver_memory {m : OutMsg} : (handOver p m s).memory = s.memory :=
  onPlu_memory fun u => handOver_history m u

@[simp] theorem raise_memory {e : Event} : (raise e s).memory = s.memory := rfl

@[simp] theorem finish_memory {seq kind : Byte} {r : AnsResult} {fl : MiFlags} {b : List Byte} :
    (finish seq kind r fl b s).memory = s.memory := rfl

@[simp] theorem damage_memory {n : Nat} : (damage p n s).memory = s.memory := onPlu_memory fun _ => rfl

@[simp] theorem pushData_memory {m : DataMsg} : (pushData p m s).memory = s.memory := onPlu_memory fun _ => rfl

/-! ### Messages, port states and answer records -/

@[simp] theorem answer_memory {ref : Word} {fl : MsgFlags} {r : AnsResult} {b : AnswerBody} :
    (answer p ref fl r b s).memory = s.memory := by
  simp [answer]

@[simp] theorem complete_memory {tag : Word} {st : CompStatus} : (complete p tag st s).memory = s.memory := by
  simp [complete]

@[simp] theorem sendDrive_memory {ms : List DriveMsg} : (sendDrive ms s).memory = s.memory := by simp [sendDrive]

@[simp] theorem raiseIf_memory {c : Bool} {e : Event} : (raiseIf c e s).memory = s.memory := by
  simp [raiseIf, apply_ite State.memory]

@[simp] theorem setPort_memory {st : PortState} : (setPort p st s).memory = s.memory := by simp [setPort]

@[simp] theorem suspect_memory {c : Cause} : (suspect p c s).memory = s.memory := by simp [suspect]

@[simp] theorem finishPending_memory {r : AnsResult} {fl : MiFlags} {b : List Byte} :
    (finishPending r fl b s).memory = s.memory := by
  simp [finishPending]

/-! ### Tickets and transfer steps -/

@[simp] theorem setEpoch_memory {v : Epoch} : (setEpoch v s).memory = s.memory := by simp [setEpoch]

@[simp] theorem takeTicket_memory {x : Taker} : (takeTicket x s).memory = s.memory := by simp [takeTicket]

@[simp] theorem beginCycle_memory : (beginCycle s).memory = s.memory := by simp [beginCycle]

@[simp] theorem startStep_memory {kind : StepKind} {dest : Option Port} {xs : List Nat} {port : Option Port}
    {ref : Option Word} :
    (startStep kind dest xs port ref s).memory = s.memory := by
  simp [startStep]

@[simp] theorem changeStep_memory {id : Nat} {g : TransferStep → TransferStep} :
    (changeStep id g s).memory = s.memory := by
  simp [changeStep]

@[simp] theorem endStep_memory {x : TransferStep} : (endStep x s).memory = s.memory := by simp [endStep]

/-! ### Claims -/

@[simp] theorem changeClaim_memory {id : Byte} {g : Claim → Claim} : (changeClaim id g s).memory = s.memory := by
  simp [changeClaim]

@[simp] theorem closeClaim_memory {id : Byte} : (closeClaim id s).memory = s.memory := by simp [closeClaim]

@[simp] theorem endClaim_memory {c : Claim} {r : AnsResult} {fl : MsgFlags} :
    (endClaim c r fl s).memory = s.memory := by
  simp [endClaim]

@[simp] theorem askHolder_memory {c : Claim} : (askHolder c s).memory = s.memory := by simp [askHolder]

@[simp] theorem transferClaim_memory {c : Claim} {xs : List Nat} : (transferClaim c xs s).memory = s.memory := by
  simp [transferClaim]

@[simp] theorem settleClaim_memory {c : Claim} : (settleClaim c s).memory = s.memory := by
  simp [settleClaim, apply_ite State.memory]

@[simp] theorem settleIfClear_memory {c : Claim} : (settleIfClear s c).memory = s.memory := by
  simp [settleIfClear, apply_ite State.memory]

@[simp] theorem settleOwed_memory : (settleOwed s).memory = s.memory :=
  foldl_memory (fun _ _ => settleIfClear_memory) _ _

@[simp] theorem oweClaims_memory : (oweClaims p s).memory = s.memory := by simp [oweClaims]

@[simp] theorem holderLeaves_memory : (holderLeaves p s).memory = s.memory := by simp [holderLeaves]

@[simp] theorem claimantParks_memory : (claimantParks p s).memory = s.memory := by
  unfold claimantParks
  split <;> simp

/-! ### Transfer steps admitted, committed and requested -/

@[simp] theorem recordDest_memory {id : Nat} {dest : Option Port} : (recordDest id dest s).memory = s.memory := by
  simp [recordDest]

@[simp] theorem recordPersist_memory {id : Nat} : (recordPersist id s).memory = s.memory := by simp [recordPersist]

@[simp] theorem enterPersist_memory {id : Nat} : (enterPersist id s).memory = s.memory := by simp [enterPersist]

@[simp] theorem admitStep_memory {x : TransferStep} : (admitStep x s).memory = s.memory := by
  simp [admitStep, apply_ite State.memory]

@[simp] theorem admitIfFree_memory {x : TransferStep} : (admitIfFree s x).memory = s.memory := by
  simp [admitIfFree, apply_ite State.memory]

@[simp] theorem admitWaiting_memory : (admitWaiting s).memory = s.memory := by
  unfold admitWaiting
  rw [foldl_memory fun _ _ => admitIfFree_memory]
  rfl

@[simp] theorem requestStep_memory {kind : StepKind} {port : Option Port} {ref : Option Word} :
    (requestStep kind port ref s).memory = s.memory := by
  simp [requestStep]

@[simp] theorem commitStep_memory {x : TransferStep} : (commitStep x s).memory = s.memory := by
  simp [commitStep, apply_ite State.memory]

/-! ### The Port Supervisors and ENROL -/

@[simp] theorem clearCause_memory : (clearCause p s).memory = s.memory := by simp [clearCause, returnToEnrolled]

@[simp] theorem enterEnrolled_memory : (enterEnrolled p s).memory = s.memory := by simp [enterEnrolled]

@[simp] theorem startShareWindow_memory : (startShareWindow s).memory = s.memory := by simp [startShareWindow]

@[simp] theorem clearEnrol_memory : (clearEnrol p s).memory = s.memory := by simp [clearEnrol]

@[simp] theorem enrolReleased_memory {durable : Bool} : (enrolReleased p durable s).memory = s.memory := by
  unfold enrolReleased
  split <;> simp [apply_ite State.memory]

@[simp] theorem enrolExhausted_memory : (enrolExhausted p s).memory = s.memory := by
  unfold enrolExhausted
  split <;> simp

@[simp] theorem enterService_memory : (enterService s).memory = s.memory := rfl

@[simp] theorem enrolServed_memory {first durable : Bool} : (enrolServed p first durable s).memory = s.memory := by
  have service : (if first && s.ic.bridge == .recovery then enterService s else s).memory = s.memory := by
    simp [apply_ite State.memory]
  unfold enrolServed
  dsimp only
  split
  · exact service
  · simpa using service

/-! ### Takeover and park -/

@[simp] theorem handoverNotice_memory {kind : HandoverKind} {dest : Option Port} {moved : Nat} {setId : Word}
    {entries : Nat}
    {durable : Bool} : (handoverNotice kind p dest moved setId entries durable s).memory = s.memory := by
  cases dest with
  | none => rfl
  | some q =>
    have flagged := fun t : State =>
      onPlu_memory (p := q) (s := t) (f := fun u => { u with handover := true }) fun _ => rfl
    exact (flagged _).trans handOver_memory

@[simp] theorem closeTakeover_memory {x : TransferStep} {durable : Bool} :
    (closeTakeover p x durable s).memory = s.memory := by
  simp [closeTakeover]

@[simp] theorem closeClosing_memory {c : Closing} {x : TransferStep} {durable : Bool} :
    (closeClosing c x durable s).memory = s.memory := by
  simp [closeClosing]

@[simp] theorem takeoverReleased_memory {x : TransferStep} {durable : Bool} :
    (takeoverReleased p x durable s).memory = s.memory := by
  unfold takeoverReleased
  split <;> simp [apply_ite State.memory]

@[simp] theorem completePark_memory {ref : Word} {durable : Bool} :
    (completePark p ref durable s).memory = s.memory := by
  simp [completePark]

@[simp] theorem parkReleased_memory {x : TransferStep} {durable : Bool} :
    (parkReleased p x durable s).memory = s.memory := by
  unfold parkReleased
  split <;> simp [apply_ite State.memory]

/-! ### Release and tickets served -/

@[simp] theorem claimReleased_memory {x : TransferStep} {durable : Bool} :
    (claimReleased x durable s).memory = s.memory := by
  unfold claimReleased
  split
  all_goals (try split) <;> simp

@[simp] theorem claimExhausted_memory {x : TransferStep} : (claimExhausted x s).memory = s.memory := by
  unfold claimExhausted
  split
  all_goals (try split) <;> simp

@[simp] theorem disclaimEnded_memory {x : TransferStep} {r : AnsResult} {fl : MsgFlags} :
    (disclaimEnded x r fl s).memory = s.memory := by
  unfold disclaimEnded
  split <;> simp

@[simp] theorem clearReleased_memory {x : TransferStep} {durable : Bool} :
    (clearReleased x durable s).memory = s.memory := by
  simp [clearReleased]

@[simp] theorem reportStep_memory {x : TransferStep} {durable : Bool} : (reportStep x durable s).memory = s.memory := by
  unfold reportStep
  split <;> simp

@[simp] theorem afterRelease_memory : (afterRelease s).memory = s.memory := by simp [afterRelease]

@[simp] theorem releaseStep_memory {x : TransferStep} {durable : Bool} :
    (releaseStep x durable s).memory = s.memory := by
  simp [releaseStep]

@[simp] theorem refuseCommit_memory {x : TransferStep} : (refuseCommit x s).memory = s.memory := by
  unfold refuseCommit
  split <;> simp

@[simp] theorem quiesceEnds_memory {x : TransferStep} : (quiesceEnds x s).memory = s.memory := by
  simp [quiesceEnds, apply_ite State.memory]

@[simp] theorem deliverTicket_memory {x : Served} : (deliverTicket x s).memory = s.memory := by
  unfold deliverTicket
  split
  all_goals (try split) <;> simp

@[simp] theorem serveNext_memory {x : Served} : (serveNext s x).memory = s.memory := by
  simp [serveNext, apply_ite State.memory]

@[simp] theorem serveTickets_memory : (serveTickets s).memory = s.memory := by
  unfold serveTickets
  rw [foldl_memory fun _ _ => serveNext_memory]
  rfl

/-! ### Internal steps -/

@[simp] theorem issueBridge_memory {c : BridgeCmd} : (issueBridge c s).memory = s.memory := by simp [issueBridge]

@[simp] theorem takeoverTransfer_memory : (takeoverTransfer p s).memory = s.memory := by simp [takeoverTransfer]

@[simp] theorem parkTransfer_memory {r : ParkRecord} : (parkTransfer p r s).memory = s.memory := by simp [parkTransfer]

@[simp] theorem reportClear_memory : (reportClear p s).memory = s.memory := by
  unfold reportClear
  dsimp only
  split
  · simp
  · split
    · split <;> simp
    · simp

@[simp] theorem reportEmpty_memory : (reportEmpty p s).memory = s.memory := by simp [reportEmpty]

/-! ### The inbound messages -/

@[simp] theorem enqueue_memory {q : QueueRecord} : (enqueue p q s).memory = s.memory := rfl

@[simp] theorem admitCommand_memory {tag : Word} {op : Op} {ec : Epoch} {range : Option (BitVec 48 × Word)} :
    (admitCommand p tag op ec range s).memory = s.memory := by
  unfold admitCommand
  split <;> simp

@[simp] theorem lengthLost_memory :
    (lengthLost p s).memory = s.memory := damage_memory.trans (onPlu_memory fun _ => rfl)

theorem byLength_memory {h : Header} {len : Nat} {wrong ok : State → State} (hw : ∀ t, (wrong t).memory = t.memory)
    (hk : ∀ t, (ok t).memory = t.memory) : (byLength p h len wrong ok s).memory = s.memory := by
  unfold byLength
  split
  · exact lengthLost_memory
  · split
    · exact hw s
    · exact hk s

theorem request_memory {h : Header} {len : Nat} {fieldsOk : Bool} {wrongBody body : AnswerBody} {serve : State → State}
    (hs : ∀ t, (serve t).memory = t.memory) : (request p h len fieldsOk wrongBody body serve s).memory = s.memory :=
  byLength_memory (fun _ => answer_memory) fun t => by
    split
    · exact answer_memory
    · split
      · exact answer_memory
      · exact hs t

@[simp] theorem driveCommand_memory {h : Header} {len : Nat} {op : Op} {ec : Epoch}
    {range : Option (BitVec 48 × Word)} :
    (driveCommand p h len op ec range s).memory = s.memory :=
  byLength_memory (fun _ => complete_memory) fun t => by
    split
    · exact complete_memory
    · exact admitCommand_memory

@[simp] theorem stallLimit_memory : (stallLimit p s).memory = s.memory := by simp [stallLimit, apply_ite State.memory]

@[simp] theorem changeEntry_memory {tag : Nat} {g : Entry → Entry} : (changeEntry tag g s).memory = s.memory := rfl

@[simp] theorem passData_memory {e : Entry} {bytes : List Byte} : (passData e bytes s).memory = s.memory := by
  unfold passData
  dsimp only
  split <;> simp

@[simp] theorem takeWriteData_memory {h : Header} {offset : BitVec 32} {bytes : List Byte} :
    (takeWriteData p h offset bytes s).memory = s.memory := by
  unfold takeWriteData
  split
  · exact lengthLost_memory
  · split
    · rfl
    · split
      · exact passData_memory
      · exact rfl

@[simp] theorem recoverEpoch_memory {epoch : Epoch} : (recoverEpoch epoch s).memory = s.memory := by
  simp [recoverEpoch, apply_ite State.memory]

@[simp] theorem recordEnrol_memory {h : Header} {epoch : Epoch} : (recordEnrol p h epoch s).memory = s.memory := rfl

@[simp] theorem enrolInRecovery_memory {h : Header} {epoch : Epoch} :
    (enrolInRecovery p h epoch s).memory = s.memory := by
  simp [enrolInRecovery]

@[simp] theorem enrolNow_memory {h : Header} : (enrolNow p h s).memory = s.memory := by simp [enrolNow]

@[simp] theorem serveEnrol_memory {h : Header} {epoch : Epoch} : (serveEnrol p h epoch s).memory = s.memory := by
  unfold serveEnrol
  split
  · simp
  · simp [apply_ite State.memory]

@[simp] theorem takeEnrol_memory {h : Header} {epoch : Epoch} :
    (takeEnrol p h epoch s).memory = s.memory :=
  request_memory fun _ => serveEnrol_memory

@[simp] theorem acceptPark_memory {h : Header} : (acceptPark p h s).memory = s.memory := by simp [acceptPark]

@[simp] theorem takePark_memory {h : Header} : (takePark p h s).memory = s.memory :=
  request_memory fun t => by
    split
    · exact acceptPark_memory
    · exact answer_memory

@[simp] theorem recordClaim_memory {ref : Word} {f n : Nat} : (recordClaim p ref f n s).memory = s.memory := by
  simp [recordClaim, apply_ite State.memory]

@[simp] theorem claimUnheld_memory {ref : Word} {f n : Nat} : (claimUnheld p ref f n s).memory = s.memory := by
  unfold claimUnheld
  split <;> simp

@[simp] theorem serveClaim_memory {h : Header} {f n : Nat} : (serveClaim p h f n s).memory = s.memory := by
  unfold serveClaim
  split
  · simp
  · simp [apply_ite State.memory]

@[simp] theorem takeClaim_memory {h : Header} {f n : Word} : (takeClaim p h f n s).memory = s.memory :=
  request_memory fun _ => serveClaim_memory

@[simp] theorem yieldOn_memory {h : Header} {c : Claim} : (yieldOn p h c s).memory = s.memory := by
  simp [yieldOn, apply_ite State.memory]

@[simp] theorem serveYield_memory {h : Header} {id : Byte} : (serveYield p h id s).memory = s.memory := by
  unfold serveYield
  split <;> simp

@[simp] theorem takeYield_memory {h : Header} {id : Byte} : (takeYield p h id s).memory = s.memory :=
  request_memory fun _ => serveYield_memory

@[simp] theorem serveKeep_memory {h : Header} {id : Byte} : (serveKeep p h id s).memory = s.memory := by
  unfold serveKeep
  split <;> simp

@[simp] theorem takeKeep_memory {h : Header} {id : Byte} : (takeKeep p h id s).memory = s.memory :=
  request_memory fun _ => serveKeep_memory

@[simp] theorem serveDisclaim_memory {h : Header} {f n : Nat} : (serveDisclaim p h f n s).memory = s.memory := by
  unfold serveDisclaim
  split <;> simp

@[simp] theorem takeDisclaim_memory {h : Header} {f n : Word} :
    (takeDisclaim p h f n s).memory = s.memory :=
  request_memory fun _ => serveDisclaim_memory

@[simp] theorem servePolicy_memory {h : Header} {f n : Nat} {x : Policy} :
    (servePolicy p h f n x s).memory = s.memory := by
  unfold servePolicy
  split <;> simp [applyPolicy]

@[simp] theorem takeSetPolicy_memory {h : Header} {f n : Word} {code : Byte} :
    (takeSetPolicy p h f n code s).memory = s.memory :=
  request_memory fun _ => servePolicy_memory

@[simp] theorem serveTakeover_memory {h : Header} : (serveTakeover p h s).memory = s.memory := by
  unfold serveTakeover
  split <;> simp

@[simp] theorem takeTakeover_memory {h : Header} {target : Byte} :
    (takeTakeover p h target s).memory = s.memory :=
  request_memory fun _ => serveTakeover_memory

@[simp] theorem serveMapQuery_memory {h : Header} {f n : Nat} : (serveMapQuery p h f n s).memory = s.memory := by
  simp [serveMapQuery, apply_ite State.memory]

@[simp] theorem takeMapQuery_memory {h : Header} {f n : Word} : (takeMapQuery p h f n s).memory = s.memory := by
  refine (request_memory fun _ => serveMapQuery_memory).trans ?_
  split
  · exact onPlu_memory fun _ => rfl
  · exact rfl

@[simp] theorem serveIntentRead_memory {h : Header} {setId : Word} :
    (serveIntentRead p h setId s).memory = s.memory := by
  unfold serveIntentRead
  split
  · simp
  · split <;> simp

@[simp] theorem takeIntentRead_memory {h : Header} {setId : Word} :
    (takeIntentRead p h setId s).memory = s.memory :=
  request_memory fun _ => serveIntentRead_memory

@[simp] theorem removeSet_memory {setId : Word} : (removeSet setId s).memory = s.memory := by simp [removeSet]

@[simp] theorem serveIntentClear_memory {h : Header} {setId : Word} :
    (serveIntentClear p h setId s).memory = s.memory := by
  simp [serveIntentClear, apply_ite State.memory]

@[simp] theorem takeIntentClear_memory {h : Header} {setId : Word} :
    (takeIntentClear p h setId s).memory = s.memory :=
  request_memory fun _ => serveIntentClear_memory

@[simp] theorem takeStateQuery_memory {h : Header} : (takeStateQuery p h s).memory = s.memory :=
  byLength_memory (fun _ => answer_memory) fun _ => answer_memory

@[simp] theorem takeUndefined_memory {h : Header} : (takeUndefined p h s).memory = s.memory := by
  simp [takeUndefined, apply_ite State.memory]

/-! ### Settling and the delivery of a message -/

@[simp] theorem takeDepth_memory : (takeDepth p s).memory = s.memory := rfl

@[simp] theorem runDue_memory {d : Due} : (runDue d s).memory = s.memory := by
  cases d <;> simp [runDue]

@[simp] theorem settle_memory : (settle s).memory = s.memory :=
  settle_keeps (fun t => t.memory = s.memory) (fun _ _ _ h => runDue_memory.trans h) s rfl

/-- R23: a whole message goes to the operation that its kind names. -/
@[simp] theorem deliver_memory {m : List Byte} : (deliver p m s).memory = s.memory := by
  simp [deliver, apply_ite State.memory, takeRead, takeWrite, takeFlush]

end Sys2Proof.Machine
end

section
/-! Proofs about the message stream: the bytes of a message, the messages of a frame, and their delivery (R8, R23, R24). -/

namespace Sys2Proof.Machine

/- Declarations are elaborated one after another, which keeps the check within its memory. -/
set_option Elab.async false

variable {p : Port} {s : State} {fr : Frame} {h : Header} {kind : Byte} {m part rest before fill body : List Byte}
  {ms : List (List Byte)}

/-! ### The bytes of a message -/

/-- R23: the bytes of a message: its kind, its header, its body. -/
def messageBytes (kind : Byte) (h : Header) (body : List Byte) : List Byte :=
  leBytes 1 kind.toNat ++ (leBytes 1 h.flags.toNat ++ (leBytes 2 h.length.toNat ++ (leBytes 2 h.ref.toNat ++ body)))

theorem leBytes_one (b : Byte) : leBytes 1 b.toNat = [b] := by simp [leBytes]

theorem messageBytes_eq (kind flags : Byte) (len ref : Word) (body : List Byte) :
    [kind, flags] ++ leBytes 2 len.toNat ++ leBytes 2 ref.toNat ++ body = messageBytes kind ⟨flags, len, ref⟩ body := by
  simp [messageBytes, leBytes_one]

theorem byteAt_leBytes (b : Byte) (rest : List Byte) : byteAt (leBytes 1 b.toNat ++ rest) 0 = b := by
  rw [byteAt, fieldAt_leBytes b.isLt, BitVec.ofNat_toNat, BitVec.setWidth_eq]

theorem wordAt_leBytes (w : Word) (rest : List Byte) : wordAt (leBytes 2 w.toNat ++ rest) 0 = w := by
  rw [wordAt, fieldAt_leBytes w.isLt, BitVec.ofNat_toNat, BitVec.setWidth_eq]

theorem byteAt_leBytes_skip {n v off : Nat} (hn : n ≤ off) : byteAt (leBytes n v ++ rest) off = byteAt rest (off - n) := by
  rw [byteAt, fieldAt_leBytes_skip hn, byteAt]

theorem wordAt_leBytes_skip {n v off : Nat} (hn : n ≤ off) : wordAt (leBytes n v ++ rest) off = wordAt rest (off - n) := by
  rw [wordAt, fieldAt_leBytes_skip hn, wordAt]

@[simp] theorem messageBytes_kind : byteAt (messageBytes kind h body) 0 = kind := byteAt_leBytes kind _

@[simp] theorem messageBytes_header : headerOf (messageBytes kind h body) = h := by
  have flags : byteAt (messageBytes kind h body) 1 = h.flags := by
    rw [messageBytes, byteAt_leBytes_skip (by decide), byteAt_leBytes]
  have length : wordAt (messageBytes kind h body) 2 = h.length := by
    rw [messageBytes, wordAt_leBytes_skip (by decide), wordAt_leBytes_skip (by decide), wordAt_leBytes]
  have ref : wordAt (messageBytes kind h body) 4 = h.ref := by
    rw [messageBytes, wordAt_leBytes_skip (by decide), wordAt_leBytes_skip (by decide), wordAt_leBytes_skip (by decide),
      wordAt_leBytes]
  rw [headerOf, flags, length, ref]

theorem messageBytes_drop : (messageBytes kind h body).drop 6 = body := by
  simp [messageBytes, leBytes]

theorem messageBytes_fieldAt (off n : Nat) : fieldAt (messageBytes kind h body) (6 + off) n = fieldAt body off n := by
  rw [fieldAt, ← List.drop_drop, messageBytes_drop, fieldAt]

theorem messageBytes_wordAt (off : Nat) : wordAt (messageBytes kind h body) (6 + off) = wordAt body off :=
  congrArg _ (messageBytes_fieldAt off 2)

theorem messageBytes_byteAt (off : Nat) : byteAt (messageBytes kind h body) (6 + off) = byteAt body off :=
  congrArg _ (messageBytes_fieldAt off 1)

/-! ### The fields of a body -/

theorem messageBytes_epoch (e : Epoch) (rest : List Byte) :
    BitVec.ofNat 32 (fieldAt (messageBytes kind h (leBytes 4 e.toNat ++ rest)) 6 4) = e := by
  rw [messageBytes_fieldAt 0 4, fieldAt_leBytes e.isLt, BitVec.ofNat_toNat, BitVec.setWidth_eq]

theorem messageBytes_lba (e : Epoch) (lba : BitVec 48) (rest : List Byte) :
    BitVec.ofNat 48 (fieldAt (messageBytes kind h (leBytes 4 e.toNat ++ (leBytes 6 lba.toNat ++ rest))) 10 6) = lba := by
  rw [messageBytes_fieldAt 4 6, fieldAt_leBytes_skip (by decide), fieldAt_leBytes lba.isLt, BitVec.ofNat_toNat,
    BitVec.setWidth_eq]

theorem messageBytes_count (e : Epoch) (lba : BitVec 48) (n : Word) (rest : List Byte) :
    wordAt (messageBytes kind h (leBytes 4 e.toNat ++ (leBytes 6 lba.toNat ++ (leBytes 2 n.toNat ++ rest)))) 16 = n := by
  rw [messageBytes_wordAt 10, wordAt_leBytes_skip (by decide), wordAt_leBytes_skip (by decide), wordAt_leBytes]

theorem messageBytes_word (w : Word) (rest : List Byte) : wordAt (messageBytes kind h (leBytes 2 w.toNat ++ rest)) 6 = w := by
  rw [messageBytes_wordAt 0, wordAt_leBytes]

theorem messageBytes_word_word (f n : Word) (rest : List Byte) :
    wordAt (messageBytes kind h (leBytes 2 f.toNat ++ (leBytes 2 n.toNat ++ rest))) 8 = n := by
  rw [messageBytes_wordAt 2, wordAt_leBytes_skip (by decide), wordAt_leBytes]

theorem messageBytes_word_word_byte (f n : Word) (b : Byte) :
    byteAt (messageBytes kind h (leBytes 2 f.toNat ++ (leBytes 2 n.toNat ++ [b]))) 10 = b := by
  rw [messageBytes_byteAt 4, byteAt_leBytes_skip (by decide), byteAt_leBytes_skip (by decide), byteAt_cons_zero]

theorem messageBytes_byte (b : Byte) : byteAt (messageBytes kind h [b]) 6 = b := by
  rw [messageBytes_byteAt 0, byteAt_cons_zero]

theorem messageBytes_bytes (e : Epoch) (bytes : List Byte) :
    (messageBytes kind h (leBytes 4 e.toNat ++ bytes)).drop 10 = bytes := by
  have four : (leBytes 4 e.toNat).length = 4 := leBytes_length ..
  rw [← List.drop_drop (i := 4) (j := 6), messageBytes_drop, List.drop_left' four]

end Sys2Proof.Machine
end

section
/-! Proofs about the messages of a frame and their delivery (R8, R23, R24, R33). -/

namespace Sys2Proof.Machine

/- Declarations are elaborated one after another, which keeps the check within its memory. -/
set_option Elab.async false

variable {p : Port} {s : State} {fr : Frame} {h : Header} {kind : Byte} {m part rest before fill body : List Byte}
  {ms : List (List Byte)}

/-! ### The messages of a frame -/

/-- R23, R24: the bytes of one whole message of an inbound kind, with the length that its header names. -/
def WholeMessage (m : List Byte) : Prop :=
  6 ≤ m.length ∧ m.length ≤ 4106 ∧ fieldAt m 2 2 = m.length ∧ inboundKind (byteAt m 0) = true

theorem byteAt_append_left {off : Nat} (h : off + 1 ≤ m.length) : byteAt (m ++ rest) off = byteAt m off :=
  congrArg _ (fieldAt_append_left h)

theorem wordAt_append_left {off : Nat} (h : off + 2 ≤ m.length) : wordAt (m ++ rest) off = wordAt m off :=
  congrArg _ (fieldAt_append_left h)

theorem WholeMessage.length_toNat (hm : WholeMessage m) : (wordAt m 2).toNat = m.length := by
  obtain ⟨-, large, len, -⟩ := hm
  rw [wordAt, len, BitVec.toNat_ofNat, Nat.mod_eq_of_lt (by omega)]

theorem WholeMessage.lengthInRange (hm : WholeMessage m) : lengthInRange (wordAt m 2) = true := by
  have len := hm.length_toNat
  obtain ⟨small, large, -, -⟩ := hm
  rw [lengthInRange_iff, BitVec.le_def, BitVec.le_def, len]
  exact ⟨small, large⟩

/-- What is gathered of a message is judged by its header as soon as its six bytes are there. -/
theorem gather_of_header {xs : List Byte} (h6 : 6 ≤ xs.length) (hr : lengthInRange (wordAt xs 2) = true)
    (hk : inboundKind (byteAt xs 0) = true) : gather xs =
      if (wordAt xs 2).toNat ≤ xs.length then
        .ended (.whole (xs.take (wordAt xs 2).toNat)) (xs.drop (wordAt xs 2).toNat)
      else .more [] (.collect xs) := by
  rw [gather, if_neg (Nat.not_lt.mpr h6)]
  dsimp only
  rw [hr, hk]
  rfl

theorem gather_whole (hm : WholeMessage m) (rest : List Byte) : gather (m ++ rest) = .ended (.whole m) rest := by
  have range := hm.lengthInRange
  have len := hm.length_toNat
  obtain ⟨small, -, -, inbound⟩ := hm
  have word : wordAt (m ++ rest) 2 = wordAt m 2 := wordAt_append_left (by omega)
  have byte : byteAt (m ++ rest) 0 = byteAt m 0 := byteAt_append_left (by omega)
  rw [gather_of_header (by rw [List.length_append]; omega) (word ▸ range) (byte ▸ inbound), word, len,
    if_pos (by rw [List.length_append]; omega), List.take_left, List.drop_left]

theorem gather_part (hm : WholeMessage (part ++ rest)) (hr : rest ≠ []) : gather part = .more [] (.collect part) := by
  have range := hm.lengthInRange
  have len := hm.length_toNat
  obtain ⟨-, -, -, inbound⟩ := hm
  have missing := List.length_pos_iff.mpr hr
  by_cases short : part.length < 6
  · rw [gather, if_pos short]
  · have word : wordAt (part ++ rest) 2 = wordAt part 2 := wordAt_append_left (by omega)
    have byte : byteAt (part ++ rest) 0 = byteAt part 0 := byteAt_append_left (by omega)
    rw [word, List.length_append] at len
    rw [gather_of_header (by omega) (word ▸ range) (byte ▸ inbound), if_neg (by omega)]

theorem parseBegun_whole (hms : ∀ y ∈ ms, WholeMessage y) (fill : List Byte) :
    parseBegun ms.length (ms.flatten ++ fill) = (ms.map .whole, .seek) := by
  induction ms with
  | nil => rfl
  | cons y ms ih =>
    obtain ⟨whole, others⟩ := List.forall_mem_cons.mp hms
    rw [List.length_cons, List.flatten_cons, List.append_assoc, parseBegun, gather_whole whole]
    dsimp only
    rw [ih others]
    rfl

/-- R8: whole messages that begin in a frame, from the start that it names. -/
theorem parseNew_whole (hms : ∀ y ∈ ms, WholeMessage y) (hs : fr.firstStart = some before.length)
    (hb : fr.begun = ms.length) (hp : fr.payload = before ++ ms.flatten ++ fill) :
    parseNew fr = (ms.map .whole, .seek) := by
  rw [parseNew, hs]
  dsimp only
  rw [hb, hp, List.append_assoc, List.drop_left, parseBegun_whole hms]

/-- R8: a message that begins in a frame and does not end in it. -/
theorem parseNew_part (hm : WholeMessage (part ++ rest)) (hr : rest ≠ []) (hs : fr.firstStart = some before.length)
    (hb : fr.begun = 1) (hp : fr.payload = before ++ part) : parseNew fr = ([], .collect part) := by
  rw [parseNew, hs]
  dsimp only
  rw [hb, hp, List.drop_left, parseBegun, gather_part hm hr]

/-- R8: the rest of a message begun earlier, and the messages that begin after it. -/
theorem parseFrame_rest (hm : WholeMessage (part ++ rest)) (hms : ∀ y ∈ ms, WholeMessage y) (hb : fr.begun = ms.length)
    (hs : fr.firstStart = some rest.length ∨ fr.firstStart = none ∧ ms = [])
    (hp : fr.payload = rest ++ ms.flatten ++ fill) :
    parseFrame (.collect part) fr = (((part ++ rest) :: ms).map .whole, .seek) := by
  have others : parseNew fr = (ms.map .whole, .seek) := by
    rcases hs with start | ⟨none, rfl⟩
    · exact parseNew_whole hms start hb hp
    · rw [parseNew, none]
      rfl
  rw [parseFrame, hp, List.append_assoc rest, ← List.append_assoc part, gather_whole hm]
  dsimp only
  rw [others]
  rfl

/-! ### The delivery of a frame -/

theorem takeFound_memory (x : Found) : (takeFound p s x).memory = s.memory := by
  cases x with
  | whole m => exact deliver_memory
  | undefinedKind => exact damage_memory
  | badLength => exact damage_memory

theorem foldl_takeFound_whole (ms : List (List Byte)) (s : State) :
    (ms.map Found.whole).foldl (takeFound p) s = ms.foldl (fun t y => deliver p y t) s := List.foldl_map

/-- R5, R8: the link at a good frame with the expected marker, once the frame is recorded and its payload parsed. -/
def Plu.received (history : List Bool) (expected : Nat) (rx : Rx) (u : Plu) : Plu :=
  { u with history := history, expected := some expected, rx := rx }

/-- R5, R6, R8: a good frame with the expected marker, at which alignment is kept: what is found in its payload is taken in
order, and nothing that a message does changes the judgement. -/
theorem exec_alignedFrame_received {history : List Bool} {found : List Found} {rx : Rx} (hq : Quiet s)
    (ha : (s.plu.get p).align = .aligned) (he : (s.plu.get p).expected = some fr.marker) (hm : fr.marker < 7)
    (hg : fr.good = true)
    (hh : history = ((s.plu.get p).history ++ [false]).drop ((s.plu.get p).history.length + 1 - 16))
    (hc : criterionMet s.cfg.criterion history = false) (hp : parseFrame (s.plu.get p).rx fr = (found, rx)) :
    exec (.alignedFrame p fr) s = .next
      ((found.foldl (takeFound p) (s.onPlu p (·.received history (fr.marker + 1) rx))).onPlu p fun u =>
        { u with cycleWords := gatherWord fr.marker fr.word u.cycleWords }) := by
  have clean : false = true ↔ ¬(fr.marker < 8 ∧ (s.plu.get p).expected = some fr.marker) := by
    simp only [he, and_true, Bool.false_eq_true, false_iff, Classical.not_not]
    omega
  have next : (fr.marker + 1) % 8 = fr.marker + 1 := Nat.mod_eq_of_lt (by omega)
  have judged : judgeFrame fr (s.plu.get p) = { s.plu.get p with history := history, expected := some (fr.marker + 1) } := by
    rw [judgeFrame_eq clean hh, judgeFrame_expected he, next]
  have parsed : parseFrame ((s.onPlu p (judgeFrame fr)).plu.get p).rx fr = (found, rx) := by
    rw [State.onPlu_get]
    exact hp
  have start : (s.onPlu p (judgeFrame fr)).onPlu p (fun u => { u with rx := rx }) =
      s.onPlu p (·.received history (fr.marker + 1) rx) := by
    rw [State.onPlu_onPlu]
    exact State.onPlu_congr (by rw [judged]; rfl)
  have delivered : deliverPayload p fr (s.onPlu p (judgeFrame fr)) =
      found.foldl (takeFound p) (s.onPlu p (·.received history (fr.marker + 1) rx)) := by
    rw [deliverPayload, parsed, ← start]
  have kept : (deliverPayload p fr (s.onPlu p (judgeFrame fr))).memory =
      (s.onPlu p (·.received history (fr.marker + 1) rx)).memory :=
    delivered ▸ foldl_memory (fun _ _ => takeFound_memory _) _ _
  rw [← delivered]
  have taken := frameTaken_clean hg (markerError_eq clean)
  rw [takeWord_short hm] at taken
  generalize deliverPayload p fr (s.onPlu p (judgeFrame fr)) = t at kept taken ⊢
  obtain ⟨settings, memory⟩ := memory_eq_iff.mp kept p
  rw [State.onPlu_get] at memory
  rw [exec_alignedFrame_of_quiet hq ha, alignedFrameTaken_kept taken]
  rw [State.onPlu_get, alignmentLost_iff, hg]
  rintro (met | ⟨bad, -⟩)
  · have same : criterionMet t.cfg.criterion (t.plu.get p).history = true := met
    rw [settings, memory] at same
    exact Bool.false_ne_true (hc.symm.trans same)
  · exact absurd bad (by decide)

end Sys2Proof.Machine
end

section
/-! The statement about the message stream (R8, R23, R24, R33). -/

namespace Sys2Proof.Machine

/- Declarations are elaborated one after another, which keeps the check within its memory. -/
set_option Elab.async false

variable {p : Port} {s : State} {h : Header} {kind : Byte}

/-! ### A header that is not served -/

theorem lengthLost_eq (p : Port) (s : State) :
    lengthLost p s = s.onPlu p fun u => { u with damaged := satAdd u.damaged 1, rx := .seek } := by
  rw [lengthLost, damage, State.onPlu_onPlu]

theorem exec_lengthOutOfRange_of_quiet (hq : Quiet s) : exec (.lengthOutOfRange p h) s = .next (lengthLost p s) := by
  have arm : exec (.lengthOutOfRange p h) s = .next (lengthLost p (settle s)) := rfl
  rw [arm, settle_of_quiet hq]

theorem exec_undefinedKind_of_quiet (hq : Quiet s) : exec (.undefinedKind p kind h) s = .next (takeUndefined p h s) := by
  have arm : exec (.undefinedKind p kind h) s = .next (takeUndefined p h (settle s)) := rfl
  rw [arm, settle_of_quiet hq]

theorem takeUndefined_inRange (hr : lengthInRange h.length = true) : takeUndefined p h s = damage p 1 s :=
  if_neg (by rw [hr]; decide)

theorem satAdd_one {w : Nat} (x : BitVec w) : satAdd x 1 = satSucc x := by
  have ones : (BitVec.allOnes w).toNat = 2 ^ w - 1 := BitVec.toNat_allOnes
  by_cases full : x = BitVec.allOnes w
  · rw [satAdd, satSucc, if_pos full, full, ones, Nat.min_eq_right (by omega), ← ones, BitVec.ofNat_toNat, BitVec.setWidth_eq]
  · have below : x.toNat ≠ 2 ^ w - 1 := fun e => full (BitVec.eq_of_toNat_eq (e.trans ones.symm))
    have bound := x.isLt
    rw [satAdd, satSucc, if_neg full, Nat.min_eq_left (by omega), BitVec.ofNat_add, BitVec.ofNat_toNat, BitVec.setWidth_eq]
    rfl

/-! ### A STATE QUERY in a frame -/

/-- R33: the bytes of a STATE QUERY. -/
theorem stateQuery_bytes (flags : Byte) (ref : Word) :
    [0x1B#8, flags, 6#8, 0#8, ref.setWidth 8, (ref >>> 8).setWidth 8] = messageBytes 0x1B#8 ⟨flags, 6, ref⟩ [] := by
  have low : ref.setWidth 8 = BitVec.ofNat 8 ref.toNat := BitVec.eq_of_toNat_eq (by simp)
  have high : (ref >>> 8).setWidth 8 = BitVec.ofNat 8 (ref.toNat / 256) :=
    BitVec.eq_of_toNat_eq (by simp [Nat.shiftRight_eq_div_pow])
  rw [low, high]
  simp [messageBytes, leBytes]

theorem stateQuery_whole (flags : Byte) (ref : Word) : WholeMessage (messageBytes 0x1B#8 ⟨flags, 6, ref⟩ []) := by
  refine ⟨?_, ?_, ?_, ?_⟩
  · simp [messageBytes]
  · simp [messageBytes]
  · simp [messageBytes, fieldAt_leBytes_skip, fieldAt_leBytes]
  · rw [messageBytes_kind]
    rfl

theorem received_quiet {history : List Bool} {expected : Nat} {rx : Rx} (hq : Quiet s) :
    Quiet (s.onPlu p (·.received history expected rx)) := by
  rw [quiet_iff]
  exact (quiet_iff s).mp hq

theorem received_view {history : List Bool} {expected : Nat} {rx : Rx} :
    (s.onPlu p (·.received history expected rx)).view p = s.view p := by
  cases p <;> rfl

theorem takeStateQuery_served (hl : h.length = 6) :
    takeStateQuery p h s = answer p h.ref noFlags .done (.stateQuery (s.view p)) s :=
  byLength_right (by rw [hl]; rfl) (by rw [hl]; rfl)

theorem deliver_stateQuery {flags : Byte} {ref : Word} (hq : Quiet s) :
    deliver p (messageBytes 0x1B#8 ⟨flags, 6, ref⟩ []) s = answer p ref noFlags .done (.stateQuery (s.view p)) s := by
  rw [deliver, settle_of_quiet hq]
  dsimp only
  rw [messageBytes_kind, messageBytes_header]
  exact takeStateQuery_served (h := ⟨flags, 6, ref⟩) rfl

theorem handOver_received {m : OutMsg} {history : List Bool} {expected : Nat} {rx : Rx} (u : Plu) :
    (u.received history expected rx).handOver m = (u.handOver m).received history expected rx := by
  by_cases room : u.outQueue.length < 192
  · rw [Plu.handOver_room m room]
    exact Plu.handOver_room m room
  · rw [Plu.handOver_full m room]
    exact Plu.handOver_full m room

theorem handOver_damaged (m : OutMsg) (u : Plu) : (u.handOver m).damaged = u.damaged := by
  unfold Plu.handOver
  split <;> rfl

theorem State.onPlu_eq_get (s : State) (p : Port) (f : Plu → Plu) :
    s.onPlu p f = s.onPlu p fun _ => (s.onPlu p f).plu.get p :=
  State.onPlu_congr (g := fun _ => (s.onPlu p f).plu.get p) (State.onPlu_get s p f).symm

/-- Settles O8: a frame's payload is parsed into whole messages, each message is read back as its command, and what the
commands do leaves the judgement of the frame alone. -/
theorem streamTaken : Obligations.StreamTaken := by
  refine ⟨fun p fr s flags ref fill hq ha hr he hg hm hs hb hp hc => ?query,
    fun p kind h s hq => ⟨?lost, fun low high => ?unknown,
    satAdd_one _⟩, fun p kind flags code len ref f n epoch lba body bytes h s c hh hk => ?command,
    fun p fr s h ms m part rest before fill hq ha he hm hg hh hc hw => ⟨fun hr hs hb hp => ?whole, fun hsplit _ hrest =>
      ⟨fun hr hs hb hp => ?begun, fun hr hb hs hp => ?ended⟩⟩⟩
  case query =>
    have whole : ∀ y ∈ [messageBytes 0x1B#8 ⟨flags, 6, ref⟩ []], WholeMessage y :=
      List.forall_mem_singleton.mpr (stateQuery_whole flags ref)
    have parsed : parseFrame (s.plu.get p).rx fr = ([.whole (messageBytes 0x1B#8 ⟨flags, 6, ref⟩ [])], .seek) := by
      rw [hr]
      exact parseNew_whole (before := []) (fill := fill) whole hs hb (by rw [hp, stateQuery_bytes]; simp)
    have delivered := deliver_stateQuery (p := p) (flags := flags) (ref := ref) (received_quiet (p := p)
      (history := ((s.plu.get p).history ++ [false]).drop ((s.plu.get p).history.length + 1 - 16))
      (expected := fr.marker + 1) (rx := .seek) hq)
    refine ⟨_, exec_alignedFrame_received hq ha he hm hg rfl hc parsed, ?_⟩
    rw [List.foldl_cons, List.foldl_nil, takeFound, delivered, received_view, answer, handOver, State.onPlu_onPlu,
      State.onPlu_onPlu]
    simp only [handOver_received]
    refine ⟨?_, ?_, ?_, ?_, State.onPlu_eq_get ..⟩ <;> rw [State.onPlu_get]
    · rfl
    · rfl
    · rfl
    · exact handOver_damaged _ _
  case lost => rw [exec_lengthOutOfRange_of_quiet hq, lengthLost_eq]
  case unknown => rw [exec_undefinedKind_of_quiet hq, takeUndefined_inRange (lengthInRange_iff.mpr ⟨low, high⟩), damage]
  case command =>
    rw [messageBytes_eq, ← hh, ← List.append_nil body, deliver]
    dsimp only
    rw [messageBytes_kind, messageBytes_header]
    rcases hk with ⟨rfl, rfl, rfl⟩ | ⟨rfl, rfl, rfl⟩ | ⟨rfl, rfl, rfl⟩ | ⟨rfl, rfl, rfl⟩ | ⟨rfl, rfl, rfl⟩ | ⟨rfl, rfl, rfl⟩ |
      ⟨rfl, rfl, rfl⟩ | ⟨rfl, rfl, rfl⟩ | ⟨rfl, rfl, rfl⟩ | ⟨rfl, rfl, rfl⟩ | ⟨rfl, rfl, rfl⟩ | ⟨rfl, rfl, rfl⟩ |
      ⟨rfl, rfl, rfl⟩ | ⟨rfl, rfl, rfl⟩ | ⟨rfl, rfl, rfl⟩ | ⟨rfl, rfl, rfl⟩
    · rw [List.append_assoc, List.append_assoc, messageBytes_epoch, messageBytes_lba, messageBytes_count]
      rfl
    · rw [List.append_assoc, List.append_assoc, messageBytes_epoch, messageBytes_lba, messageBytes_count]
      rfl
    · rw [messageBytes_epoch]
      rfl
    · rw [List.append_nil, messageBytes_epoch, messageBytes_bytes]
      rfl
    · rw [messageBytes_epoch]
      rfl
    · rfl
    · rw [List.append_assoc, messageBytes_word, messageBytes_word_word]
      rfl
    · rw [List.append_nil, messageBytes_byte]
      rfl
    · rw [List.append_nil, messageBytes_byte]
      rfl
    · rw [List.append_assoc, messageBytes_word, messageBytes_word_word]
      rfl
    · rw [List.append_nil, List.append_assoc, messageBytes_word, messageBytes_word_word, messageBytes_word_word_byte]
      rfl
    · rw [List.append_nil, messageBytes_byte]
      rfl
    · rw [List.append_assoc, messageBytes_word, messageBytes_word_word]
      rfl
    · rw [messageBytes_word]
      rfl
    · rw [messageBytes_word]
      rfl
    · rfl
  case whole =>
    have whole : ∀ y ∈ ms, WholeMessage y := (List.forall_mem_cons.mp hw).2
    have parsed : parseFrame (s.plu.get p).rx fr = (ms.map .whole, .seek) := by
      rw [hr]
      exact parseNew_whole whole hs hb hp
    rw [exec_alignedFrame_received hq ha he hm hg hh hc parsed, foldl_takeFound_whole, ← hr]
    rfl
  case begun =>
    have whole : WholeMessage (part ++ rest) := hsplit ▸ (List.forall_mem_cons.mp hw).1
    have parsed : parseFrame (s.plu.get p).rx fr = ([], .collect part) := by
      rw [hr]
      exact parseNew_part whole hrest hs hb hp
    rw [exec_alignedFrame_received hq ha he hm hg hh hc parsed, List.foldl_nil, State.onPlu_onPlu]
    rfl
  case ended =>
    have parsed : parseFrame (s.plu.get p).rx fr = ((m :: ms).map .whole, .seek) := by
      obtain ⟨whole, others⟩ := List.forall_mem_cons.mp hw
      rw [hsplit] at whole ⊢
      rw [hr]
      exact parseFrame_rest whole others hb hs hp
    rw [exec_alignedFrame_received hq ha he hm hg hh hc parsed, foldl_takeFound_whole]
    rfl

end Sys2Proof.Machine
end
